-- ==== Sys2Proof/Word.lean ====
section
/-! DEFINITION. The machine's word types: a byte, a 16-bit word, a 2-bit shade (00_scope.md R6, R8; 10_state.md R39). -/

namespace Sys2Proof

/-- 8 bits, a value of 0 to 0xFF (R8). -/
abbrev Byte := BitVec 8

/-- 16 bits, a value of 0 to 0xFFFF (R8): an address, a register pair, `PC` or `SP` (R6). -/
abbrev Word := BitVec 16

/-- A pixel of the frame buffer: a shade 0 to 3 (R37, R39). -/
abbrev Shade := BitVec 2

end Sys2Proof
end

