-- ==== Sys2Proof/Machine/Bits.lean ====
section
/-! DEFINITION. Bit fields, byte order and sign extension (00_scope.md R8, R9). -/

namespace Sys2Proof

/-- `hi ++ lo = hi * 256 + lo` (R8). -/
def cat (hi lo : Byte) : Word := BitVec.ofNat 16 (hi.toNat * 256 + lo.toNat)

/-- `w[15:8]`. -/
def hiByte (w : Word) : Byte := BitVec.ofNat 8 (w.toNat / 256)

/-- `w[7:0]`. -/
def loByte (w : Word) : Byte := BitVec.ofNat 8 w.toNat

/-- `sext_16(b)`: "`b` if `b < 0x80`, else `0xFF00 + b`" (R9). -/
def sext16 (b : Byte) : Word :=
  if b.toNat < 0x80 then BitVec.ofNat 16 b.toNat else BitVec.ofNat 16 (0xFF00 + b.toNat)

/-- `signed8(b)`: "the integer `b` if `b < 0x80`, else `b - 256`" (R9). -/
def signed8 (b : Byte) : Int := if b.toNat < 0x80 then (b.toNat : Int) else (b.toNat : Int) - 256

/-- `v[i]`, bit i of a byte (R8). -/
def bit (v : Byte) (i : Nat) : Bool := v.getLsbD i

/-- The field `v[lo+width-1 : lo]` of a byte as a number (R8). -/
def field (v : Byte) (lo width : Nat) : Nat := v.toNat / 2 ^ lo % 2 ^ width

end Sys2Proof
end

