-- ==== Sys2Proof/Machine/Names.lean ====
section
/-! DEFINITION. The operand names of the encoding: 30_encoding.md R103 to R106, R118. -/

namespace Sys2Proof

/-- The registers among the 8-bit operands `r[i]`, `i` other than 6 (R103). `F` has no index. -/
inductive Reg8 where
  | b | c | d | e | h | l | a
deriving DecidableEq, Repr

/-- The 8-bit operand `r[i]` (R103): a register, or for `i = 6` the memory byte at the address in `HL`. -/
inductive Loc8 where
  | reg (r : Reg8)
  | atHL
deriving DecidableEq, Repr

/-- The 16-bit operand `rp[i]` (R104). -/
inductive Pair where
  | bc | de | hl | sp
deriving DecidableEq, Repr

/-- The 16-bit operand `rp2[i]` of `PUSH` and `POP` (R104). -/
inductive StackPair where
  | bc | de | hl | af
deriving DecidableEq, Repr

/-- The pointer of the accumulator loads `LD A,(..)` and `LD (..),A`, `op[5:4]` in R108. -/
inductive Pointer where
  | bc | de | hlInc | hlDec
deriving DecidableEq, Repr

/-- The condition codes (R105). -/
inductive Cond where
  | nz | z | nc | c
deriving DecidableEq, Repr

/-- `alu[a]` (R106). -/
inductive AluOp where
  | add | adc | sub | sbc | and | xor | or | cp
deriving DecidableEq, Repr

/-- `rot[o]` (R106). -/
inductive RotOp where
  | rlc | rrc | rl | rr | sla | sra | swap | srl
deriving DecidableEq, Repr

/-- The four accumulator rotates of the base table (44_rotate_shift_bit.md R230 to R233). -/
inductive AccRot where
  | rlca | rrca | rla | rra
deriving DecidableEq, Repr

/-- A field `y` of three bits used as a number 0 to 7: the bit index of `BIT`, `RES`, `SET` and the target of `RST` (R107). -/
inductive Three where
  | n0 | n1 | n2 | n3 | n4 | n5 | n6 | n7
deriving DecidableEq, Repr

/-- The eleven base bytes that have no instruction (R118). -/
inductive Undef where
  | d3 | db | dd | e3 | e4 | eb | ec | ed | f4 | fc | fd
deriving DecidableEq, Repr

end Sys2Proof
end

