-- ==== Sys2Proof/Syntax.lean ====
section
/-! DEFINITION. The instructions: one constructor per row of spec/opcode_table.json (30_encoding.md R109, R111, R117), named as the table
names it in lower case, `(X)` written `atX`. The arguments are the operand bytes that follow the opcode: `n` and `e` a byte, `nn` a word
(R107); `stop` keeps its padding byte (46_system.md R282) and the prefix row the extended opcode (R285). -/

namespace Sys2Proof

/-- The instructions of the two 256-entry tables: the rows with operand bytes first (Lean's compiler bounds the number of a constructor with
fields), then the others in the table's order. -/
inductive Instr where
  -- rows with operand bytes
  | ld_bc_nn (nn : Word)
  | ld_b_n (n : Byte)
  | ld_atNn_sp (nn : Word)
  | ld_c_n (n : Byte)
  | stop (pad : Byte)
  | ld_de_nn (nn : Word)
  | ld_d_n (n : Byte)
  | jr_e (e : Byte)
  | ld_e_n (n : Byte)
  | jr_nz_e (e : Byte)
  | ld_hl_nn (nn : Word)
  | ld_h_n (n : Byte)
  | jr_z_e (e : Byte)
  | ld_l_n (n : Byte)
  | jr_nc_e (e : Byte)
  | ld_sp_nn (nn : Word)
  | ld_atHL_n (n : Byte)
  | jr_c_e (e : Byte)
  | ld_a_n (n : Byte)
  | jp_nz_nn (nn : Word)
  | jp_nn (nn : Word)
  | call_nz_nn (nn : Word)
  | add_a_n (n : Byte)
  | jp_z_nn (nn : Word)
  | prefix_cb (op2 : Byte)
  | call_z_nn (nn : Word)
  | call_nn (nn : Word)
  | adc_a_n (n : Byte)
  | jp_nc_nn (nn : Word)
  | call_nc_nn (nn : Word)
  | sub_n (n : Byte)
  | jp_c_nn (nn : Word)
  | call_c_nn (nn : Word)
  | sbc_a_n (n : Byte)
  | ldh_atN_a (n : Byte)
  | and_n (n : Byte)
  | add_sp_e (e : Byte)
  | ld_atNn_a (nn : Word)
  | xor_n (n : Byte)
  | ldh_a_atN (n : Byte)
  | or_n (n : Byte)
  | ld_hl_spPlusE (e : Byte)
  | ld_a_atNn (nn : Word)
  | cp_n (n : Byte)
  -- base bytes 0x00 to 0x07
  | nop
  | ld_atBC_a
  | inc_bc
  | inc_b
  | dec_b
  | rlca
  -- base bytes 0x08 to 0x0F
  | add_hl_bc
  | ld_a_atBC
  | dec_bc
  | inc_c
  | dec_c
  | rrca
  -- base bytes 0x10 to 0x17
  | ld_atDE_a
  | inc_de
  | inc_d
  | dec_d
  | rla
  -- base bytes 0x18 to 0x1F
  | add_hl_de
  | ld_a_atDE
  | dec_de
  | inc_e
  | dec_e
  | rra
  -- base bytes 0x20 to 0x27
  | ld_atHLinc_a
  | inc_hl
  | inc_h
  | dec_h
  | daa
  -- base bytes 0x28 to 0x2F
  | add_hl_hl
  | ld_a_atHLinc
  | dec_hl
  | inc_l
  | dec_l
  | cpl
  -- base bytes 0x30 to 0x37
  | ld_atHLdec_a
  | inc_sp
  | inc_atHL
  | dec_atHL
  | scf
  -- base bytes 0x38 to 0x3F
  | add_hl_sp
  | ld_a_atHLdec
  | dec_sp
  | inc_a
  | dec_a
  | ccf
  -- base bytes 0x40 to 0x47
  | ld_b_b
  | ld_b_c
  | ld_b_d
  | ld_b_e
  | ld_b_h
  | ld_b_l
  | ld_b_atHL
  | ld_b_a
  -- base bytes 0x48 to 0x4F
  | ld_c_b
  | ld_c_c
  | ld_c_d
  | ld_c_e
  | ld_c_h
  | ld_c_l
  | ld_c_atHL
  | ld_c_a
  -- base bytes 0x50 to 0x57
  | ld_d_b
  | ld_d_c
  | ld_d_d
  | ld_d_e
  | ld_d_h
  | ld_d_l
  | ld_d_atHL
  | ld_d_a
  -- base bytes 0x58 to 0x5F
  | ld_e_b
  | ld_e_c
  | ld_e_d
  | ld_e_e
  | ld_e_h
  | ld_e_l
  | ld_e_atHL
  | ld_e_a
  -- base bytes 0x60 to 0x67
  | ld_h_b
  | ld_h_c
  | ld_h_d
  | ld_h_e
  | ld_h_h
  | ld_h_l
  | ld_h_atHL
  | ld_h_a
  -- base bytes 0x68 to 0x6F
  | ld_l_b
  | ld_l_c
  | ld_l_d
  | ld_l_e
  | ld_l_h
  | ld_l_l
  | ld_l_atHL
  | ld_l_a
  -- base bytes 0x70 to 0x77
  | ld_atHL_b
  | ld_atHL_c
  | ld_atHL_d
  | ld_atHL_e
  | ld_atHL_h
  | ld_atHL_l
  | halt
  | ld_atHL_a
  -- base bytes 0x78 to 0x7F
  | ld_a_b
  | ld_a_c
  | ld_a_d
  | ld_a_e
  | ld_a_h
  | ld_a_l
  | ld_a_atHL
  | ld_a_a
  -- base bytes 0x80 to 0x87
  | add_a_b
  | add_a_c
  | add_a_d
  | add_a_e
  | add_a_h
  | add_a_l
  | add_a_atHL
  | add_a_a
  -- base bytes 0x88 to 0x8F
  | adc_a_b
  | adc_a_c
  | adc_a_d
  | adc_a_e
  | adc_a_h
  | adc_a_l
  | adc_a_atHL
  | adc_a_a
  -- base bytes 0x90 to 0x97
  | sub_b
  | sub_c
  | sub_d
  | sub_e
  | sub_h
  | sub_l
  | sub_atHL
  | sub_a
  -- base bytes 0x98 to 0x9F
  | sbc_a_b
  | sbc_a_c
  | sbc_a_d
  | sbc_a_e
  | sbc_a_h
  | sbc_a_l
  | sbc_a_atHL
  | sbc_a_a
  -- base bytes 0xA0 to 0xA7
  | and_b
  | and_c
  | and_d
  | and_e
  | and_h
  | and_l
  | and_atHL
  | and_a
  -- base bytes 0xA8 to 0xAF
  | xor_b
  | xor_c
  | xor_d
  | xor_e
  | xor_h
  | xor_l
  | xor_atHL
  | xor_a
  -- base bytes 0xB0 to 0xB7
  | or_b
  | or_c
  | or_d
  | or_e
  | or_h
  | or_l
  | or_atHL
  | or_a
  -- base bytes 0xB8 to 0xBF
  | cp_b
  | cp_c
  | cp_d
  | cp_e
  | cp_h
  | cp_l
  | cp_atHL
  | cp_a
  -- base bytes 0xC0 to 0xC7
  | ret_nz
  | pop_bc
  | push_bc
  | rst_00
  -- base bytes 0xC8 to 0xCF
  | ret_z
  | ret
  | rst_08
  -- base bytes 0xD0 to 0xD7
  | ret_nc
  | pop_de
  | undefined_d3
  | push_de
  | rst_10
  -- base bytes 0xD8 to 0xDF
  | ret_c
  | reti
  | undefined_db
  | undefined_dd
  | rst_18
  -- base bytes 0xE0 to 0xE7
  | pop_hl
  | ldh_atC_a
  | undefined_e3
  | undefined_e4
  | push_hl
  | rst_20
  -- base bytes 0xE8 to 0xEF
  | jp_hl
  | undefined_eb
  | undefined_ec
  | undefined_ed
  | rst_28
  -- base bytes 0xF0 to 0xF7
  | pop_af
  | ldh_a_atC
  | di
  | undefined_f4
  | push_af
  | rst_30
  -- base bytes 0xF8 to 0xFF
  | ld_sp_hl
  | ei
  | undefined_fc
  | undefined_fd
  | rst_38
  -- extended bytes 0x00 to 0x07
  | rlc_b
  | rlc_c
  | rlc_d
  | rlc_e
  | rlc_h
  | rlc_l
  | rlc_atHL
  | rlc_a
  -- extended bytes 0x08 to 0x0F
  | rrc_b
  | rrc_c
  | rrc_d
  | rrc_e
  | rrc_h
  | rrc_l
  | rrc_atHL
  | rrc_a
  -- extended bytes 0x10 to 0x17
  | rl_b
  | rl_c
  | rl_d
  | rl_e
  | rl_h
  | rl_l
  | rl_atHL
  | rl_a
  -- extended bytes 0x18 to 0x1F
  | rr_b
  | rr_c
  | rr_d
  | rr_e
  | rr_h
  | rr_l
  | rr_atHL
  | rr_a
  -- extended bytes 0x20 to 0x27
  | sla_b
  | sla_c
  | sla_d
  | sla_e
  | sla_h
  | sla_l
  | sla_atHL
  | sla_a
  -- extended bytes 0x28 to 0x2F
  | sra_b
  | sra_c
  | sra_d
  | sra_e
  | sra_h
  | sra_l
  | sra_atHL
  | sra_a
  -- extended bytes 0x30 to 0x37
  | swap_b
  | swap_c
  | swap_d
  | swap_e
  | swap_h
  | swap_l
  | swap_atHL
  | swap_a
  -- extended bytes 0x38 to 0x3F
  | srl_b
  | srl_c
  | srl_d
  | srl_e
  | srl_h
  | srl_l
  | srl_atHL
  | srl_a
  -- extended bytes 0x40 to 0x47
  | bit_0_b
  | bit_0_c
  | bit_0_d
  | bit_0_e
  | bit_0_h
  | bit_0_l
  | bit_0_atHL
  | bit_0_a
  -- extended bytes 0x48 to 0x4F
  | bit_1_b
  | bit_1_c
  | bit_1_d
  | bit_1_e
  | bit_1_h
  | bit_1_l
  | bit_1_atHL
  | bit_1_a
  -- extended bytes 0x50 to 0x57
  | bit_2_b
  | bit_2_c
  | bit_2_d
  | bit_2_e
  | bit_2_h
  | bit_2_l
  | bit_2_atHL
  | bit_2_a
  -- extended bytes 0x58 to 0x5F
  | bit_3_b
  | bit_3_c
  | bit_3_d
  | bit_3_e
  | bit_3_h
  | bit_3_l
  | bit_3_atHL
  | bit_3_a
  -- extended bytes 0x60 to 0x67
  | bit_4_b
  | bit_4_c
  | bit_4_d
  | bit_4_e
  | bit_4_h
  | bit_4_l
  | bit_4_atHL
  | bit_4_a
  -- extended bytes 0x68 to 0x6F
  | bit_5_b
  | bit_5_c
  | bit_5_d
  | bit_5_e
  | bit_5_h
  | bit_5_l
  | bit_5_atHL
  | bit_5_a
  -- extended bytes 0x70 to 0x77
  | bit_6_b
  | bit_6_c
  | bit_6_d
  | bit_6_e
  | bit_6_h
  | bit_6_l
  | bit_6_atHL
  | bit_6_a
  -- extended bytes 0x78 to 0x7F
  | bit_7_b
  | bit_7_c
  | bit_7_d
  | bit_7_e
  | bit_7_h
  | bit_7_l
  | bit_7_atHL
  | bit_7_a
  -- extended bytes 0x80 to 0x87
  | res_0_b
  | res_0_c
  | res_0_d
  | res_0_e
  | res_0_h
  | res_0_l
  | res_0_atHL
  | res_0_a
  -- extended bytes 0x88 to 0x8F
  | res_1_b
  | res_1_c
  | res_1_d
  | res_1_e
  | res_1_h
  | res_1_l
  | res_1_atHL
  | res_1_a
  -- extended bytes 0x90 to 0x97
  | res_2_b
  | res_2_c
  | res_2_d
  | res_2_e
  | res_2_h
  | res_2_l
  | res_2_atHL
  | res_2_a
  -- extended bytes 0x98 to 0x9F
  | res_3_b
  | res_3_c
  | res_3_d
  | res_3_e
  | res_3_h
  | res_3_l
  | res_3_atHL
  | res_3_a
  -- extended bytes 0xA0 to 0xA7
  | res_4_b
  | res_4_c
  | res_4_d
  | res_4_e
  | res_4_h
  | res_4_l
  | res_4_atHL
  | res_4_a
  -- extended bytes 0xA8 to 0xAF
  | res_5_b
  | res_5_c
  | res_5_d
  | res_5_e
  | res_5_h
  | res_5_l
  | res_5_atHL
  | res_5_a
  -- extended bytes 0xB0 to 0xB7
  | res_6_b
  | res_6_c
  | res_6_d
  | res_6_e
  | res_6_h
  | res_6_l
  | res_6_atHL
  | res_6_a
  -- extended bytes 0xB8 to 0xBF
  | res_7_b
  | res_7_c
  | res_7_d
  | res_7_e
  | res_7_h
  | res_7_l
  | res_7_atHL
  | res_7_a
  -- extended bytes 0xC0 to 0xC7
  | set_0_b
  | set_0_c
  | set_0_d
  | set_0_e
  | set_0_h
  | set_0_l
  | set_0_atHL
  | set_0_a
  -- extended bytes 0xC8 to 0xCF
  | set_1_b
  | set_1_c
  | set_1_d
  | set_1_e
  | set_1_h
  | set_1_l
  | set_1_atHL
  | set_1_a
  -- extended bytes 0xD0 to 0xD7
  | set_2_b
  | set_2_c
  | set_2_d
  | set_2_e
  | set_2_h
  | set_2_l
  | set_2_atHL
  | set_2_a
  -- extended bytes 0xD8 to 0xDF
  | set_3_b
  | set_3_c
  | set_3_d
  | set_3_e
  | set_3_h
  | set_3_l
  | set_3_atHL
  | set_3_a
  -- extended bytes 0xE0 to 0xE7
  | set_4_b
  | set_4_c
  | set_4_d
  | set_4_e
  | set_4_h
  | set_4_l
  | set_4_atHL
  | set_4_a
  -- extended bytes 0xE8 to 0xEF
  | set_5_b
  | set_5_c
  | set_5_d
  | set_5_e
  | set_5_h
  | set_5_l
  | set_5_atHL
  | set_5_a
  -- extended bytes 0xF0 to 0xF7
  | set_6_b
  | set_6_c
  | set_6_d
  | set_6_e
  | set_6_h
  | set_6_l
  | set_6_atHL
  | set_6_a
  -- extended bytes 0xF8 to 0xFF
  | set_7_b
  | set_7_c
  | set_7_d
  | set_7_e
  | set_7_h
  | set_7_l
  | set_7_atHL
  | set_7_a
deriving DecidableEq, Repr

end Sys2Proof
end

