-- ==== Sys2Proof/Machine/Form.lean ====
section
/-! DEFINITION. The bit patterns of 30_encoding.md R108 and R110 as instruction forms with operands, and the table row each form with its
operands stands for. A form is a second view of `Instr`: statements and the decoder are written once per pattern. -/

namespace Sys2Proof

/-- The patterns of R108 (base table) and R110 (extended table), in their order. -/
inductive Form where
  | nop
  | ldAtNnSp (nn : Word)
  | stop (pad : Byte)
  | jr (e : Byte)
  | jrCc (cc : Cond) (e : Byte)
  | ldPairNn (p : Pair) (nn : Word)
  | addHlPair (p : Pair)
  | ldAtPtrA (p : Pointer)
  | ldAAtPtr (p : Pointer)
  | incPair (p : Pair)
  | decPair (p : Pair)
  | inc (v : Loc8)
  | dec (v : Loc8)
  | ldN (v : Loc8) (n : Byte)
  | accRot (o : AccRot)
  | daa
  | cpl
  | scf
  | ccf
  | ldReg (dst src : Reg8)
  | ldFromHL (dst : Reg8)
  | ldToHL (src : Reg8)
  | halt
  | alu (op : AluOp) (v : Loc8)
  | retCc (cc : Cond)
  | ldhAtNA (n : Byte)
  | addSpE (e : Byte)
  | ldhAAtN (n : Byte)
  | ldHlSpE (e : Byte)
  | pop (p : StackPair)
  | ret
  | reti
  | jpHl
  | ldSpHl
  | jpCc (cc : Cond) (nn : Word)
  | ldhAtCA
  | ldAtNnA (nn : Word)
  | ldhAAtC
  | ldAAtNn (nn : Word)
  | jpNn (nn : Word)
  | prefixCb (op2 : Byte)
  | di
  | ei
  | callCc (cc : Cond) (nn : Word)
  | push (p : StackPair)
  | callNn (nn : Word)
  | aluN (op : AluOp) (n : Byte)
  | rst (t : Three)
  | undefined (u : Undef)
  | rot (o : RotOp) (v : Loc8)
  | bit (b : Three) (v : Loc8)
  | res (b : Three) (v : Loc8)
  | set (b : Three) (v : Loc8)
deriving DecidableEq, Repr

/-- Rows of LD r,r' (R130). -/
def Form.ldRegRow (x : Reg8) (y : Reg8) : Instr :=
  match x, y with
  | .b, .b => .ld_b_b
  | .b, .c => .ld_b_c
  | .b, .d => .ld_b_d
  | .b, .e => .ld_b_e
  | .b, .h => .ld_b_h
  | .b, .l => .ld_b_l
  | .b, .a => .ld_b_a
  | .c, .b => .ld_c_b
  | .c, .c => .ld_c_c
  | .c, .d => .ld_c_d
  | .c, .e => .ld_c_e
  | .c, .h => .ld_c_h
  | .c, .l => .ld_c_l
  | .c, .a => .ld_c_a
  | .d, .b => .ld_d_b
  | .d, .c => .ld_d_c
  | .d, .d => .ld_d_d
  | .d, .e => .ld_d_e
  | .d, .h => .ld_d_h
  | .d, .l => .ld_d_l
  | .d, .a => .ld_d_a
  | .e, .b => .ld_e_b
  | .e, .c => .ld_e_c
  | .e, .d => .ld_e_d
  | .e, .e => .ld_e_e
  | .e, .h => .ld_e_h
  | .e, .l => .ld_e_l
  | .e, .a => .ld_e_a
  | .h, .b => .ld_h_b
  | .h, .c => .ld_h_c
  | .h, .d => .ld_h_d
  | .h, .e => .ld_h_e
  | .h, .h => .ld_h_h
  | .h, .l => .ld_h_l
  | .h, .a => .ld_h_a
  | .l, .b => .ld_l_b
  | .l, .c => .ld_l_c
  | .l, .d => .ld_l_d
  | .l, .e => .ld_l_e
  | .l, .h => .ld_l_h
  | .l, .l => .ld_l_l
  | .l, .a => .ld_l_a
  | .a, .b => .ld_a_b
  | .a, .c => .ld_a_c
  | .a, .d => .ld_a_d
  | .a, .e => .ld_a_e
  | .a, .h => .ld_a_h
  | .a, .l => .ld_a_l
  | .a, .a => .ld_a_a

/-- Rows of the eight operations on A, register and (HL) operand (R181 to R188). -/
def Form.aluRow (x : AluOp) (y : Loc8) : Instr :=
  match x, y with
  | .add, .reg .b => .add_a_b
  | .add, .reg .c => .add_a_c
  | .add, .reg .d => .add_a_d
  | .add, .reg .e => .add_a_e
  | .add, .reg .h => .add_a_h
  | .add, .reg .l => .add_a_l
  | .add, .atHL => .add_a_atHL
  | .add, .reg .a => .add_a_a
  | .adc, .reg .b => .adc_a_b
  | .adc, .reg .c => .adc_a_c
  | .adc, .reg .d => .adc_a_d
  | .adc, .reg .e => .adc_a_e
  | .adc, .reg .h => .adc_a_h
  | .adc, .reg .l => .adc_a_l
  | .adc, .atHL => .adc_a_atHL
  | .adc, .reg .a => .adc_a_a
  | .sub, .reg .b => .sub_b
  | .sub, .reg .c => .sub_c
  | .sub, .reg .d => .sub_d
  | .sub, .reg .e => .sub_e
  | .sub, .reg .h => .sub_h
  | .sub, .reg .l => .sub_l
  | .sub, .atHL => .sub_atHL
  | .sub, .reg .a => .sub_a
  | .sbc, .reg .b => .sbc_a_b
  | .sbc, .reg .c => .sbc_a_c
  | .sbc, .reg .d => .sbc_a_d
  | .sbc, .reg .e => .sbc_a_e
  | .sbc, .reg .h => .sbc_a_h
  | .sbc, .reg .l => .sbc_a_l
  | .sbc, .atHL => .sbc_a_atHL
  | .sbc, .reg .a => .sbc_a_a
  | .and, .reg .b => .and_b
  | .and, .reg .c => .and_c
  | .and, .reg .d => .and_d
  | .and, .reg .e => .and_e
  | .and, .reg .h => .and_h
  | .and, .reg .l => .and_l
  | .and, .atHL => .and_atHL
  | .and, .reg .a => .and_a
  | .xor, .reg .b => .xor_b
  | .xor, .reg .c => .xor_c
  | .xor, .reg .d => .xor_d
  | .xor, .reg .e => .xor_e
  | .xor, .reg .h => .xor_h
  | .xor, .reg .l => .xor_l
  | .xor, .atHL => .xor_atHL
  | .xor, .reg .a => .xor_a
  | .or, .reg .b => .or_b
  | .or, .reg .c => .or_c
  | .or, .reg .d => .or_d
  | .or, .reg .e => .or_e
  | .or, .reg .h => .or_h
  | .or, .reg .l => .or_l
  | .or, .atHL => .or_atHL
  | .or, .reg .a => .or_a
  | .cp, .reg .b => .cp_b
  | .cp, .reg .c => .cp_c
  | .cp, .reg .d => .cp_d
  | .cp, .reg .e => .cp_e
  | .cp, .reg .h => .cp_h
  | .cp, .reg .l => .cp_l
  | .cp, .atHL => .cp_atHL
  | .cp, .reg .a => .cp_a

/-- Rows of the extended rotates and shifts (R235 to R242). -/
def Form.rotRow (x : RotOp) (y : Loc8) : Instr :=
  match x, y with
  | .rlc, .reg .b => .rlc_b
  | .rlc, .reg .c => .rlc_c
  | .rlc, .reg .d => .rlc_d
  | .rlc, .reg .e => .rlc_e
  | .rlc, .reg .h => .rlc_h
  | .rlc, .reg .l => .rlc_l
  | .rlc, .atHL => .rlc_atHL
  | .rlc, .reg .a => .rlc_a
  | .rrc, .reg .b => .rrc_b
  | .rrc, .reg .c => .rrc_c
  | .rrc, .reg .d => .rrc_d
  | .rrc, .reg .e => .rrc_e
  | .rrc, .reg .h => .rrc_h
  | .rrc, .reg .l => .rrc_l
  | .rrc, .atHL => .rrc_atHL
  | .rrc, .reg .a => .rrc_a
  | .rl, .reg .b => .rl_b
  | .rl, .reg .c => .rl_c
  | .rl, .reg .d => .rl_d
  | .rl, .reg .e => .rl_e
  | .rl, .reg .h => .rl_h
  | .rl, .reg .l => .rl_l
  | .rl, .atHL => .rl_atHL
  | .rl, .reg .a => .rl_a
  | .rr, .reg .b => .rr_b
  | .rr, .reg .c => .rr_c
  | .rr, .reg .d => .rr_d
  | .rr, .reg .e => .rr_e
  | .rr, .reg .h => .rr_h
  | .rr, .reg .l => .rr_l
  | .rr, .atHL => .rr_atHL
  | .rr, .reg .a => .rr_a
  | .sla, .reg .b => .sla_b
  | .sla, .reg .c => .sla_c
  | .sla, .reg .d => .sla_d
  | .sla, .reg .e => .sla_e
  | .sla, .reg .h => .sla_h
  | .sla, .reg .l => .sla_l
  | .sla, .atHL => .sla_atHL
  | .sla, .reg .a => .sla_a
  | .sra, .reg .b => .sra_b
  | .sra, .reg .c => .sra_c
  | .sra, .reg .d => .sra_d
  | .sra, .reg .e => .sra_e
  | .sra, .reg .h => .sra_h
  | .sra, .reg .l => .sra_l
  | .sra, .atHL => .sra_atHL
  | .sra, .reg .a => .sra_a
  | .swap, .reg .b => .swap_b
  | .swap, .reg .c => .swap_c
  | .swap, .reg .d => .swap_d
  | .swap, .reg .e => .swap_e
  | .swap, .reg .h => .swap_h
  | .swap, .reg .l => .swap_l
  | .swap, .atHL => .swap_atHL
  | .swap, .reg .a => .swap_a
  | .srl, .reg .b => .srl_b
  | .srl, .reg .c => .srl_c
  | .srl, .reg .d => .srl_d
  | .srl, .reg .e => .srl_e
  | .srl, .reg .h => .srl_h
  | .srl, .reg .l => .srl_l
  | .srl, .atHL => .srl_atHL
  | .srl, .reg .a => .srl_a

/-- Rows of BIT b,r (R243). -/
def Form.bitRow (x : Three) (y : Loc8) : Instr :=
  match x, y with
  | .n0, .reg .b => .bit_0_b
  | .n0, .reg .c => .bit_0_c
  | .n0, .reg .d => .bit_0_d
  | .n0, .reg .e => .bit_0_e
  | .n0, .reg .h => .bit_0_h
  | .n0, .reg .l => .bit_0_l
  | .n0, .atHL => .bit_0_atHL
  | .n0, .reg .a => .bit_0_a
  | .n1, .reg .b => .bit_1_b
  | .n1, .reg .c => .bit_1_c
  | .n1, .reg .d => .bit_1_d
  | .n1, .reg .e => .bit_1_e
  | .n1, .reg .h => .bit_1_h
  | .n1, .reg .l => .bit_1_l
  | .n1, .atHL => .bit_1_atHL
  | .n1, .reg .a => .bit_1_a
  | .n2, .reg .b => .bit_2_b
  | .n2, .reg .c => .bit_2_c
  | .n2, .reg .d => .bit_2_d
  | .n2, .reg .e => .bit_2_e
  | .n2, .reg .h => .bit_2_h
  | .n2, .reg .l => .bit_2_l
  | .n2, .atHL => .bit_2_atHL
  | .n2, .reg .a => .bit_2_a
  | .n3, .reg .b => .bit_3_b
  | .n3, .reg .c => .bit_3_c
  | .n3, .reg .d => .bit_3_d
  | .n3, .reg .e => .bit_3_e
  | .n3, .reg .h => .bit_3_h
  | .n3, .reg .l => .bit_3_l
  | .n3, .atHL => .bit_3_atHL
  | .n3, .reg .a => .bit_3_a
  | .n4, .reg .b => .bit_4_b
  | .n4, .reg .c => .bit_4_c
  | .n4, .reg .d => .bit_4_d
  | .n4, .reg .e => .bit_4_e
  | .n4, .reg .h => .bit_4_h
  | .n4, .reg .l => .bit_4_l
  | .n4, .atHL => .bit_4_atHL
  | .n4, .reg .a => .bit_4_a
  | .n5, .reg .b => .bit_5_b
  | .n5, .reg .c => .bit_5_c
  | .n5, .reg .d => .bit_5_d
  | .n5, .reg .e => .bit_5_e
  | .n5, .reg .h => .bit_5_h
  | .n5, .reg .l => .bit_5_l
  | .n5, .atHL => .bit_5_atHL
  | .n5, .reg .a => .bit_5_a
  | .n6, .reg .b => .bit_6_b
  | .n6, .reg .c => .bit_6_c
  | .n6, .reg .d => .bit_6_d
  | .n6, .reg .e => .bit_6_e
  | .n6, .reg .h => .bit_6_h
  | .n6, .reg .l => .bit_6_l
  | .n6, .atHL => .bit_6_atHL
  | .n6, .reg .a => .bit_6_a
  | .n7, .reg .b => .bit_7_b
  | .n7, .reg .c => .bit_7_c
  | .n7, .reg .d => .bit_7_d
  | .n7, .reg .e => .bit_7_e
  | .n7, .reg .h => .bit_7_h
  | .n7, .reg .l => .bit_7_l
  | .n7, .atHL => .bit_7_atHL
  | .n7, .reg .a => .bit_7_a

/-- Rows of RES b,r (R244). -/
def Form.resRow (x : Three) (y : Loc8) : Instr :=
  match x, y with
  | .n0, .reg .b => .res_0_b
  | .n0, .reg .c => .res_0_c
  | .n0, .reg .d => .res_0_d
  | .n0, .reg .e => .res_0_e
  | .n0, .reg .h => .res_0_h
  | .n0, .reg .l => .res_0_l
  | .n0, .atHL => .res_0_atHL
  | .n0, .reg .a => .res_0_a
  | .n1, .reg .b => .res_1_b
  | .n1, .reg .c => .res_1_c
  | .n1, .reg .d => .res_1_d
  | .n1, .reg .e => .res_1_e
  | .n1, .reg .h => .res_1_h
  | .n1, .reg .l => .res_1_l
  | .n1, .atHL => .res_1_atHL
  | .n1, .reg .a => .res_1_a
  | .n2, .reg .b => .res_2_b
  | .n2, .reg .c => .res_2_c
  | .n2, .reg .d => .res_2_d
  | .n2, .reg .e => .res_2_e
  | .n2, .reg .h => .res_2_h
  | .n2, .reg .l => .res_2_l
  | .n2, .atHL => .res_2_atHL
  | .n2, .reg .a => .res_2_a
  | .n3, .reg .b => .res_3_b
  | .n3, .reg .c => .res_3_c
  | .n3, .reg .d => .res_3_d
  | .n3, .reg .e => .res_3_e
  | .n3, .reg .h => .res_3_h
  | .n3, .reg .l => .res_3_l
  | .n3, .atHL => .res_3_atHL
  | .n3, .reg .a => .res_3_a
  | .n4, .reg .b => .res_4_b
  | .n4, .reg .c => .res_4_c
  | .n4, .reg .d => .res_4_d
  | .n4, .reg .e => .res_4_e
  | .n4, .reg .h => .res_4_h
  | .n4, .reg .l => .res_4_l
  | .n4, .atHL => .res_4_atHL
  | .n4, .reg .a => .res_4_a
  | .n5, .reg .b => .res_5_b
  | .n5, .reg .c => .res_5_c
  | .n5, .reg .d => .res_5_d
  | .n5, .reg .e => .res_5_e
  | .n5, .reg .h => .res_5_h
  | .n5, .reg .l => .res_5_l
  | .n5, .atHL => .res_5_atHL
  | .n5, .reg .a => .res_5_a
  | .n6, .reg .b => .res_6_b
  | .n6, .reg .c => .res_6_c
  | .n6, .reg .d => .res_6_d
  | .n6, .reg .e => .res_6_e
  | .n6, .reg .h => .res_6_h
  | .n6, .reg .l => .res_6_l
  | .n6, .atHL => .res_6_atHL
  | .n6, .reg .a => .res_6_a
  | .n7, .reg .b => .res_7_b
  | .n7, .reg .c => .res_7_c
  | .n7, .reg .d => .res_7_d
  | .n7, .reg .e => .res_7_e
  | .n7, .reg .h => .res_7_h
  | .n7, .reg .l => .res_7_l
  | .n7, .atHL => .res_7_atHL
  | .n7, .reg .a => .res_7_a

/-- Rows of SET b,r (R245). -/
def Form.setRow (x : Three) (y : Loc8) : Instr :=
  match x, y with
  | .n0, .reg .b => .set_0_b
  | .n0, .reg .c => .set_0_c
  | .n0, .reg .d => .set_0_d
  | .n0, .reg .e => .set_0_e
  | .n0, .reg .h => .set_0_h
  | .n0, .reg .l => .set_0_l
  | .n0, .atHL => .set_0_atHL
  | .n0, .reg .a => .set_0_a
  | .n1, .reg .b => .set_1_b
  | .n1, .reg .c => .set_1_c
  | .n1, .reg .d => .set_1_d
  | .n1, .reg .e => .set_1_e
  | .n1, .reg .h => .set_1_h
  | .n1, .reg .l => .set_1_l
  | .n1, .atHL => .set_1_atHL
  | .n1, .reg .a => .set_1_a
  | .n2, .reg .b => .set_2_b
  | .n2, .reg .c => .set_2_c
  | .n2, .reg .d => .set_2_d
  | .n2, .reg .e => .set_2_e
  | .n2, .reg .h => .set_2_h
  | .n2, .reg .l => .set_2_l
  | .n2, .atHL => .set_2_atHL
  | .n2, .reg .a => .set_2_a
  | .n3, .reg .b => .set_3_b
  | .n3, .reg .c => .set_3_c
  | .n3, .reg .d => .set_3_d
  | .n3, .reg .e => .set_3_e
  | .n3, .reg .h => .set_3_h
  | .n3, .reg .l => .set_3_l
  | .n3, .atHL => .set_3_atHL
  | .n3, .reg .a => .set_3_a
  | .n4, .reg .b => .set_4_b
  | .n4, .reg .c => .set_4_c
  | .n4, .reg .d => .set_4_d
  | .n4, .reg .e => .set_4_e
  | .n4, .reg .h => .set_4_h
  | .n4, .reg .l => .set_4_l
  | .n4, .atHL => .set_4_atHL
  | .n4, .reg .a => .set_4_a
  | .n5, .reg .b => .set_5_b
  | .n5, .reg .c => .set_5_c
  | .n5, .reg .d => .set_5_d
  | .n5, .reg .e => .set_5_e
  | .n5, .reg .h => .set_5_h
  | .n5, .reg .l => .set_5_l
  | .n5, .atHL => .set_5_atHL
  | .n5, .reg .a => .set_5_a
  | .n6, .reg .b => .set_6_b
  | .n6, .reg .c => .set_6_c
  | .n6, .reg .d => .set_6_d
  | .n6, .reg .e => .set_6_e
  | .n6, .reg .h => .set_6_h
  | .n6, .reg .l => .set_6_l
  | .n6, .atHL => .set_6_atHL
  | .n6, .reg .a => .set_6_a
  | .n7, .reg .b => .set_7_b
  | .n7, .reg .c => .set_7_c
  | .n7, .reg .d => .set_7_d
  | .n7, .reg .e => .set_7_e
  | .n7, .reg .h => .set_7_h
  | .n7, .reg .l => .set_7_l
  | .n7, .atHL => .set_7_atHL
  | .n7, .reg .a => .set_7_a

/-- The instruction of a form: the row of the table the form's operands select. -/
def Form.toInstr (f : Form) : Instr :=
  match f with
  | .nop => .nop
  | .ldPairNn .bc nn => .ld_bc_nn nn
  | .ldAtPtrA .bc => .ld_atBC_a
  | .incPair .bc => .inc_bc
  | .inc (.reg .b) => .inc_b
  | .dec (.reg .b) => .dec_b
  | .ldN (.reg .b) n => .ld_b_n n
  | .accRot .rlca => .rlca
  | .ldAtNnSp nn => .ld_atNn_sp nn
  | .addHlPair .bc => .add_hl_bc
  | .ldAAtPtr .bc => .ld_a_atBC
  | .decPair .bc => .dec_bc
  | .inc (.reg .c) => .inc_c
  | .dec (.reg .c) => .dec_c
  | .ldN (.reg .c) n => .ld_c_n n
  | .accRot .rrca => .rrca
  | .stop pad => .stop pad
  | .ldPairNn .de nn => .ld_de_nn nn
  | .ldAtPtrA .de => .ld_atDE_a
  | .incPair .de => .inc_de
  | .inc (.reg .d) => .inc_d
  | .dec (.reg .d) => .dec_d
  | .ldN (.reg .d) n => .ld_d_n n
  | .accRot .rla => .rla
  | .jr e => .jr_e e
  | .addHlPair .de => .add_hl_de
  | .ldAAtPtr .de => .ld_a_atDE
  | .decPair .de => .dec_de
  | .inc (.reg .e) => .inc_e
  | .dec (.reg .e) => .dec_e
  | .ldN (.reg .e) n => .ld_e_n n
  | .accRot .rra => .rra
  | .jrCc .nz e => .jr_nz_e e
  | .ldPairNn .hl nn => .ld_hl_nn nn
  | .ldAtPtrA .hlInc => .ld_atHLinc_a
  | .incPair .hl => .inc_hl
  | .inc (.reg .h) => .inc_h
  | .dec (.reg .h) => .dec_h
  | .ldN (.reg .h) n => .ld_h_n n
  | .daa => .daa
  | .jrCc .z e => .jr_z_e e
  | .addHlPair .hl => .add_hl_hl
  | .ldAAtPtr .hlInc => .ld_a_atHLinc
  | .decPair .hl => .dec_hl
  | .inc (.reg .l) => .inc_l
  | .dec (.reg .l) => .dec_l
  | .ldN (.reg .l) n => .ld_l_n n
  | .cpl => .cpl
  | .jrCc .nc e => .jr_nc_e e
  | .ldPairNn .sp nn => .ld_sp_nn nn
  | .ldAtPtrA .hlDec => .ld_atHLdec_a
  | .incPair .sp => .inc_sp
  | .inc .atHL => .inc_atHL
  | .dec .atHL => .dec_atHL
  | .ldN .atHL n => .ld_atHL_n n
  | .scf => .scf
  | .jrCc .c e => .jr_c_e e
  | .addHlPair .sp => .add_hl_sp
  | .ldAAtPtr .hlDec => .ld_a_atHLdec
  | .decPair .sp => .dec_sp
  | .inc (.reg .a) => .inc_a
  | .dec (.reg .a) => .dec_a
  | .ldN (.reg .a) n => .ld_a_n n
  | .ccf => .ccf
  | .ldReg x y => Form.ldRegRow x y
  | .ldFromHL .b => .ld_b_atHL
  | .ldFromHL .c => .ld_c_atHL
  | .ldFromHL .d => .ld_d_atHL
  | .ldFromHL .e => .ld_e_atHL
  | .ldFromHL .h => .ld_h_atHL
  | .ldFromHL .l => .ld_l_atHL
  | .ldToHL .b => .ld_atHL_b
  | .ldToHL .c => .ld_atHL_c
  | .ldToHL .d => .ld_atHL_d
  | .ldToHL .e => .ld_atHL_e
  | .ldToHL .h => .ld_atHL_h
  | .ldToHL .l => .ld_atHL_l
  | .halt => .halt
  | .ldToHL .a => .ld_atHL_a
  | .ldFromHL .a => .ld_a_atHL
  | .alu x y => Form.aluRow x y
  | .retCc .nz => .ret_nz
  | .pop .bc => .pop_bc
  | .jpCc .nz nn => .jp_nz_nn nn
  | .jpNn nn => .jp_nn nn
  | .callCc .nz nn => .call_nz_nn nn
  | .push .bc => .push_bc
  | .aluN .add n => .add_a_n n
  | .rst .n0 => .rst_00
  | .retCc .z => .ret_z
  | .ret => .ret
  | .jpCc .z nn => .jp_z_nn nn
  | .prefixCb op2 => .prefix_cb op2
  | .callCc .z nn => .call_z_nn nn
  | .callNn nn => .call_nn nn
  | .aluN .adc n => .adc_a_n n
  | .rst .n1 => .rst_08
  | .retCc .nc => .ret_nc
  | .pop .de => .pop_de
  | .jpCc .nc nn => .jp_nc_nn nn
  | .undefined .d3 => .undefined_d3
  | .callCc .nc nn => .call_nc_nn nn
  | .push .de => .push_de
  | .aluN .sub n => .sub_n n
  | .rst .n2 => .rst_10
  | .retCc .c => .ret_c
  | .reti => .reti
  | .jpCc .c nn => .jp_c_nn nn
  | .undefined .db => .undefined_db
  | .callCc .c nn => .call_c_nn nn
  | .undefined .dd => .undefined_dd
  | .aluN .sbc n => .sbc_a_n n
  | .rst .n3 => .rst_18
  | .ldhAtNA n => .ldh_atN_a n
  | .pop .hl => .pop_hl
  | .ldhAtCA => .ldh_atC_a
  | .undefined .e3 => .undefined_e3
  | .undefined .e4 => .undefined_e4
  | .push .hl => .push_hl
  | .aluN .and n => .and_n n
  | .rst .n4 => .rst_20
  | .addSpE e => .add_sp_e e
  | .jpHl => .jp_hl
  | .ldAtNnA nn => .ld_atNn_a nn
  | .undefined .eb => .undefined_eb
  | .undefined .ec => .undefined_ec
  | .undefined .ed => .undefined_ed
  | .aluN .xor n => .xor_n n
  | .rst .n5 => .rst_28
  | .ldhAAtN n => .ldh_a_atN n
  | .pop .af => .pop_af
  | .ldhAAtC => .ldh_a_atC
  | .di => .di
  | .undefined .f4 => .undefined_f4
  | .push .af => .push_af
  | .aluN .or n => .or_n n
  | .rst .n6 => .rst_30
  | .ldHlSpE e => .ld_hl_spPlusE e
  | .ldSpHl => .ld_sp_hl
  | .ldAAtNn nn => .ld_a_atNn nn
  | .ei => .ei
  | .undefined .fc => .undefined_fc
  | .undefined .fd => .undefined_fd
  | .aluN .cp n => .cp_n n
  | .rst .n7 => .rst_38
  | .rot x y => Form.rotRow x y
  | .bit x y => Form.bitRow x y
  | .res x y => Form.resRow x y
  | .set x y => Form.setRow x y

/-- The form of an instruction. `Form.toInstr` is its inverse (Laws/Forms.lean). -/
def Instr.form (i : Instr) : Form :=
  match i with
  | .nop => .nop
  | .ld_bc_nn nn => .ldPairNn .bc nn
  | .ld_atBC_a => .ldAtPtrA .bc
  | .inc_bc => .incPair .bc
  | .inc_b => .inc (.reg .b)
  | .dec_b => .dec (.reg .b)
  | .ld_b_n n => .ldN (.reg .b) n
  | .rlca => .accRot .rlca
  | .ld_atNn_sp nn => .ldAtNnSp nn
  | .add_hl_bc => .addHlPair .bc
  | .ld_a_atBC => .ldAAtPtr .bc
  | .dec_bc => .decPair .bc
  | .inc_c => .inc (.reg .c)
  | .dec_c => .dec (.reg .c)
  | .ld_c_n n => .ldN (.reg .c) n
  | .rrca => .accRot .rrca
  | .stop pad => .stop pad
  | .ld_de_nn nn => .ldPairNn .de nn
  | .ld_atDE_a => .ldAtPtrA .de
  | .inc_de => .incPair .de
  | .inc_d => .inc (.reg .d)
  | .dec_d => .dec (.reg .d)
  | .ld_d_n n => .ldN (.reg .d) n
  | .rla => .accRot .rla
  | .jr_e e => .jr e
  | .add_hl_de => .addHlPair .de
  | .ld_a_atDE => .ldAAtPtr .de
  | .dec_de => .decPair .de
  | .inc_e => .inc (.reg .e)
  | .dec_e => .dec (.reg .e)
  | .ld_e_n n => .ldN (.reg .e) n
  | .rra => .accRot .rra
  | .jr_nz_e e => .jrCc .nz e
  | .ld_hl_nn nn => .ldPairNn .hl nn
  | .ld_atHLinc_a => .ldAtPtrA .hlInc
  | .inc_hl => .incPair .hl
  | .inc_h => .inc (.reg .h)
  | .dec_h => .dec (.reg .h)
  | .ld_h_n n => .ldN (.reg .h) n
  | .daa => .daa
  | .jr_z_e e => .jrCc .z e
  | .add_hl_hl => .addHlPair .hl
  | .ld_a_atHLinc => .ldAAtPtr .hlInc
  | .dec_hl => .decPair .hl
  | .inc_l => .inc (.reg .l)
  | .dec_l => .dec (.reg .l)
  | .ld_l_n n => .ldN (.reg .l) n
  | .cpl => .cpl
  | .jr_nc_e e => .jrCc .nc e
  | .ld_sp_nn nn => .ldPairNn .sp nn
  | .ld_atHLdec_a => .ldAtPtrA .hlDec
  | .inc_sp => .incPair .sp
  | .inc_atHL => .inc .atHL
  | .dec_atHL => .dec .atHL
  | .ld_atHL_n n => .ldN .atHL n
  | .scf => .scf
  | .jr_c_e e => .jrCc .c e
  | .add_hl_sp => .addHlPair .sp
  | .ld_a_atHLdec => .ldAAtPtr .hlDec
  | .dec_sp => .decPair .sp
  | .inc_a => .inc (.reg .a)
  | .dec_a => .dec (.reg .a)
  | .ld_a_n n => .ldN (.reg .a) n
  | .ccf => .ccf
  | .ld_b_b => .ldReg .b .b
  | .ld_b_c => .ldReg .b .c
  | .ld_b_d => .ldReg .b .d
  | .ld_b_e => .ldReg .b .e
  | .ld_b_h => .ldReg .b .h
  | .ld_b_l => .ldReg .b .l
  | .ld_b_atHL => .ldFromHL .b
  | .ld_b_a => .ldReg .b .a
  | .ld_c_b => .ldReg .c .b
  | .ld_c_c => .ldReg .c .c
  | .ld_c_d => .ldReg .c .d
  | .ld_c_e => .ldReg .c .e
  | .ld_c_h => .ldReg .c .h
  | .ld_c_l => .ldReg .c .l
  | .ld_c_atHL => .ldFromHL .c
  | .ld_c_a => .ldReg .c .a
  | .ld_d_b => .ldReg .d .b
  | .ld_d_c => .ldReg .d .c
  | .ld_d_d => .ldReg .d .d
  | .ld_d_e => .ldReg .d .e
  | .ld_d_h => .ldReg .d .h
  | .ld_d_l => .ldReg .d .l
  | .ld_d_atHL => .ldFromHL .d
  | .ld_d_a => .ldReg .d .a
  | .ld_e_b => .ldReg .e .b
  | .ld_e_c => .ldReg .e .c
  | .ld_e_d => .ldReg .e .d
  | .ld_e_e => .ldReg .e .e
  | .ld_e_h => .ldReg .e .h
  | .ld_e_l => .ldReg .e .l
  | .ld_e_atHL => .ldFromHL .e
  | .ld_e_a => .ldReg .e .a
  | .ld_h_b => .ldReg .h .b
  | .ld_h_c => .ldReg .h .c
  | .ld_h_d => .ldReg .h .d
  | .ld_h_e => .ldReg .h .e
  | .ld_h_h => .ldReg .h .h
  | .ld_h_l => .ldReg .h .l
  | .ld_h_atHL => .ldFromHL .h
  | .ld_h_a => .ldReg .h .a
  | .ld_l_b => .ldReg .l .b
  | .ld_l_c => .ldReg .l .c
  | .ld_l_d => .ldReg .l .d
  | .ld_l_e => .ldReg .l .e
  | .ld_l_h => .ldReg .l .h
  | .ld_l_l => .ldReg .l .l
  | .ld_l_atHL => .ldFromHL .l
  | .ld_l_a => .ldReg .l .a
  | .ld_atHL_b => .ldToHL .b
  | .ld_atHL_c => .ldToHL .c
  | .ld_atHL_d => .ldToHL .d
  | .ld_atHL_e => .ldToHL .e
  | .ld_atHL_h => .ldToHL .h
  | .ld_atHL_l => .ldToHL .l
  | .halt => .halt
  | .ld_atHL_a => .ldToHL .a
  | .ld_a_b => .ldReg .a .b
  | .ld_a_c => .ldReg .a .c
  | .ld_a_d => .ldReg .a .d
  | .ld_a_e => .ldReg .a .e
  | .ld_a_h => .ldReg .a .h
  | .ld_a_l => .ldReg .a .l
  | .ld_a_atHL => .ldFromHL .a
  | .ld_a_a => .ldReg .a .a
  | .add_a_b => .alu .add (.reg .b)
  | .add_a_c => .alu .add (.reg .c)
  | .add_a_d => .alu .add (.reg .d)
  | .add_a_e => .alu .add (.reg .e)
  | .add_a_h => .alu .add (.reg .h)
  | .add_a_l => .alu .add (.reg .l)
  | .add_a_atHL => .alu .add .atHL
  | .add_a_a => .alu .add (.reg .a)
  | .adc_a_b => .alu .adc (.reg .b)
  | .adc_a_c => .alu .adc (.reg .c)
  | .adc_a_d => .alu .adc (.reg .d)
  | .adc_a_e => .alu .adc (.reg .e)
  | .adc_a_h => .alu .adc (.reg .h)
  | .adc_a_l => .alu .adc (.reg .l)
  | .adc_a_atHL => .alu .adc .atHL
  | .adc_a_a => .alu .adc (.reg .a)
  | .sub_b => .alu .sub (.reg .b)
  | .sub_c => .alu .sub (.reg .c)
  | .sub_d => .alu .sub (.reg .d)
  | .sub_e => .alu .sub (.reg .e)
  | .sub_h => .alu .sub (.reg .h)
  | .sub_l => .alu .sub (.reg .l)
  | .sub_atHL => .alu .sub .atHL
  | .sub_a => .alu .sub (.reg .a)
  | .sbc_a_b => .alu .sbc (.reg .b)
  | .sbc_a_c => .alu .sbc (.reg .c)
  | .sbc_a_d => .alu .sbc (.reg .d)
  | .sbc_a_e => .alu .sbc (.reg .e)
  | .sbc_a_h => .alu .sbc (.reg .h)
  | .sbc_a_l => .alu .sbc (.reg .l)
  | .sbc_a_atHL => .alu .sbc .atHL
  | .sbc_a_a => .alu .sbc (.reg .a)
  | .and_b => .alu .and (.reg .b)
  | .and_c => .alu .and (.reg .c)
  | .and_d => .alu .and (.reg .d)
  | .and_e => .alu .and (.reg .e)
  | .and_h => .alu .and (.reg .h)
  | .and_l => .alu .and (.reg .l)
  | .and_atHL => .alu .and .atHL
  | .and_a => .alu .and (.reg .a)
  | .xor_b => .alu .xor (.reg .b)
  | .xor_c => .alu .xor (.reg .c)
  | .xor_d => .alu .xor (.reg .d)
  | .xor_e => .alu .xor (.reg .e)
  | .xor_h => .alu .xor (.reg .h)
  | .xor_l => .alu .xor (.reg .l)
  | .xor_atHL => .alu .xor .atHL
  | .xor_a => .alu .xor (.reg .a)
  | .or_b => .alu .or (.reg .b)
  | .or_c => .alu .or (.reg .c)
  | .or_d => .alu .or (.reg .d)
  | .or_e => .alu .or (.reg .e)
  | .or_h => .alu .or (.reg .h)
  | .or_l => .alu .or (.reg .l)
  | .or_atHL => .alu .or .atHL
  | .or_a => .alu .or (.reg .a)
  | .cp_b => .alu .cp (.reg .b)
  | .cp_c => .alu .cp (.reg .c)
  | .cp_d => .alu .cp (.reg .d)
  | .cp_e => .alu .cp (.reg .e)
  | .cp_h => .alu .cp (.reg .h)
  | .cp_l => .alu .cp (.reg .l)
  | .cp_atHL => .alu .cp .atHL
  | .cp_a => .alu .cp (.reg .a)
  | .ret_nz => .retCc .nz
  | .pop_bc => .pop .bc
  | .jp_nz_nn nn => .jpCc .nz nn
  | .jp_nn nn => .jpNn nn
  | .call_nz_nn nn => .callCc .nz nn
  | .push_bc => .push .bc
  | .add_a_n n => .aluN .add n
  | .rst_00 => .rst .n0
  | .ret_z => .retCc .z
  | .ret => .ret
  | .jp_z_nn nn => .jpCc .z nn
  | .prefix_cb op2 => .prefixCb op2
  | .call_z_nn nn => .callCc .z nn
  | .call_nn nn => .callNn nn
  | .adc_a_n n => .aluN .adc n
  | .rst_08 => .rst .n1
  | .ret_nc => .retCc .nc
  | .pop_de => .pop .de
  | .jp_nc_nn nn => .jpCc .nc nn
  | .undefined_d3 => .undefined .d3
  | .call_nc_nn nn => .callCc .nc nn
  | .push_de => .push .de
  | .sub_n n => .aluN .sub n
  | .rst_10 => .rst .n2
  | .ret_c => .retCc .c
  | .reti => .reti
  | .jp_c_nn nn => .jpCc .c nn
  | .undefined_db => .undefined .db
  | .call_c_nn nn => .callCc .c nn
  | .undefined_dd => .undefined .dd
  | .sbc_a_n n => .aluN .sbc n
  | .rst_18 => .rst .n3
  | .ldh_atN_a n => .ldhAtNA n
  | .pop_hl => .pop .hl
  | .ldh_atC_a => .ldhAtCA
  | .undefined_e3 => .undefined .e3
  | .undefined_e4 => .undefined .e4
  | .push_hl => .push .hl
  | .and_n n => .aluN .and n
  | .rst_20 => .rst .n4
  | .add_sp_e e => .addSpE e
  | .jp_hl => .jpHl
  | .ld_atNn_a nn => .ldAtNnA nn
  | .undefined_eb => .undefined .eb
  | .undefined_ec => .undefined .ec
  | .undefined_ed => .undefined .ed
  | .xor_n n => .aluN .xor n
  | .rst_28 => .rst .n5
  | .ldh_a_atN n => .ldhAAtN n
  | .pop_af => .pop .af
  | .ldh_a_atC => .ldhAAtC
  | .di => .di
  | .undefined_f4 => .undefined .f4
  | .push_af => .push .af
  | .or_n n => .aluN .or n
  | .rst_30 => .rst .n6
  | .ld_hl_spPlusE e => .ldHlSpE e
  | .ld_sp_hl => .ldSpHl
  | .ld_a_atNn nn => .ldAAtNn nn
  | .ei => .ei
  | .undefined_fc => .undefined .fc
  | .undefined_fd => .undefined .fd
  | .cp_n n => .aluN .cp n
  | .rst_38 => .rst .n7
  | .rlc_b => .rot .rlc (.reg .b)
  | .rlc_c => .rot .rlc (.reg .c)
  | .rlc_d => .rot .rlc (.reg .d)
  | .rlc_e => .rot .rlc (.reg .e)
  | .rlc_h => .rot .rlc (.reg .h)
  | .rlc_l => .rot .rlc (.reg .l)
  | .rlc_atHL => .rot .rlc .atHL
  | .rlc_a => .rot .rlc (.reg .a)
  | .rrc_b => .rot .rrc (.reg .b)
  | .rrc_c => .rot .rrc (.reg .c)
  | .rrc_d => .rot .rrc (.reg .d)
  | .rrc_e => .rot .rrc (.reg .e)
  | .rrc_h => .rot .rrc (.reg .h)
  | .rrc_l => .rot .rrc (.reg .l)
  | .rrc_atHL => .rot .rrc .atHL
  | .rrc_a => .rot .rrc (.reg .a)
  | .rl_b => .rot .rl (.reg .b)
  | .rl_c => .rot .rl (.reg .c)
  | .rl_d => .rot .rl (.reg .d)
  | .rl_e => .rot .rl (.reg .e)
  | .rl_h => .rot .rl (.reg .h)
  | .rl_l => .rot .rl (.reg .l)
  | .rl_atHL => .rot .rl .atHL
  | .rl_a => .rot .rl (.reg .a)
  | .rr_b => .rot .rr (.reg .b)
  | .rr_c => .rot .rr (.reg .c)
  | .rr_d => .rot .rr (.reg .d)
  | .rr_e => .rot .rr (.reg .e)
  | .rr_h => .rot .rr (.reg .h)
  | .rr_l => .rot .rr (.reg .l)
  | .rr_atHL => .rot .rr .atHL
  | .rr_a => .rot .rr (.reg .a)
  | .sla_b => .rot .sla (.reg .b)
  | .sla_c => .rot .sla (.reg .c)
  | .sla_d => .rot .sla (.reg .d)
  | .sla_e => .rot .sla (.reg .e)
  | .sla_h => .rot .sla (.reg .h)
  | .sla_l => .rot .sla (.reg .l)
  | .sla_atHL => .rot .sla .atHL
  | .sla_a => .rot .sla (.reg .a)
  | .sra_b => .rot .sra (.reg .b)
  | .sra_c => .rot .sra (.reg .c)
  | .sra_d => .rot .sra (.reg .d)
  | .sra_e => .rot .sra (.reg .e)
  | .sra_h => .rot .sra (.reg .h)
  | .sra_l => .rot .sra (.reg .l)
  | .sra_atHL => .rot .sra .atHL
  | .sra_a => .rot .sra (.reg .a)
  | .swap_b => .rot .swap (.reg .b)
  | .swap_c => .rot .swap (.reg .c)
  | .swap_d => .rot .swap (.reg .d)
  | .swap_e => .rot .swap (.reg .e)
  | .swap_h => .rot .swap (.reg .h)
  | .swap_l => .rot .swap (.reg .l)
  | .swap_atHL => .rot .swap .atHL
  | .swap_a => .rot .swap (.reg .a)
  | .srl_b => .rot .srl (.reg .b)
  | .srl_c => .rot .srl (.reg .c)
  | .srl_d => .rot .srl (.reg .d)
  | .srl_e => .rot .srl (.reg .e)
  | .srl_h => .rot .srl (.reg .h)
  | .srl_l => .rot .srl (.reg .l)
  | .srl_atHL => .rot .srl .atHL
  | .srl_a => .rot .srl (.reg .a)
  | .bit_0_b => .bit .n0 (.reg .b)
  | .bit_0_c => .bit .n0 (.reg .c)
  | .bit_0_d => .bit .n0 (.reg .d)
  | .bit_0_e => .bit .n0 (.reg .e)
  | .bit_0_h => .bit .n0 (.reg .h)
  | .bit_0_l => .bit .n0 (.reg .l)
  | .bit_0_atHL => .bit .n0 .atHL
  | .bit_0_a => .bit .n0 (.reg .a)
  | .bit_1_b => .bit .n1 (.reg .b)
  | .bit_1_c => .bit .n1 (.reg .c)
  | .bit_1_d => .bit .n1 (.reg .d)
  | .bit_1_e => .bit .n1 (.reg .e)
  | .bit_1_h => .bit .n1 (.reg .h)
  | .bit_1_l => .bit .n1 (.reg .l)
  | .bit_1_atHL => .bit .n1 .atHL
  | .bit_1_a => .bit .n1 (.reg .a)
  | .bit_2_b => .bit .n2 (.reg .b)
  | .bit_2_c => .bit .n2 (.reg .c)
  | .bit_2_d => .bit .n2 (.reg .d)
  | .bit_2_e => .bit .n2 (.reg .e)
  | .bit_2_h => .bit .n2 (.reg .h)
  | .bit_2_l => .bit .n2 (.reg .l)
  | .bit_2_atHL => .bit .n2 .atHL
  | .bit_2_a => .bit .n2 (.reg .a)
  | .bit_3_b => .bit .n3 (.reg .b)
  | .bit_3_c => .bit .n3 (.reg .c)
  | .bit_3_d => .bit .n3 (.reg .d)
  | .bit_3_e => .bit .n3 (.reg .e)
  | .bit_3_h => .bit .n3 (.reg .h)
  | .bit_3_l => .bit .n3 (.reg .l)
  | .bit_3_atHL => .bit .n3 .atHL
  | .bit_3_a => .bit .n3 (.reg .a)
  | .bit_4_b => .bit .n4 (.reg .b)
  | .bit_4_c => .bit .n4 (.reg .c)
  | .bit_4_d => .bit .n4 (.reg .d)
  | .bit_4_e => .bit .n4 (.reg .e)
  | .bit_4_h => .bit .n4 (.reg .h)
  | .bit_4_l => .bit .n4 (.reg .l)
  | .bit_4_atHL => .bit .n4 .atHL
  | .bit_4_a => .bit .n4 (.reg .a)
  | .bit_5_b => .bit .n5 (.reg .b)
  | .bit_5_c => .bit .n5 (.reg .c)
  | .bit_5_d => .bit .n5 (.reg .d)
  | .bit_5_e => .bit .n5 (.reg .e)
  | .bit_5_h => .bit .n5 (.reg .h)
  | .bit_5_l => .bit .n5 (.reg .l)
  | .bit_5_atHL => .bit .n5 .atHL
  | .bit_5_a => .bit .n5 (.reg .a)
  | .bit_6_b => .bit .n6 (.reg .b)
  | .bit_6_c => .bit .n6 (.reg .c)
  | .bit_6_d => .bit .n6 (.reg .d)
  | .bit_6_e => .bit .n6 (.reg .e)
  | .bit_6_h => .bit .n6 (.reg .h)
  | .bit_6_l => .bit .n6 (.reg .l)
  | .bit_6_atHL => .bit .n6 .atHL
  | .bit_6_a => .bit .n6 (.reg .a)
  | .bit_7_b => .bit .n7 (.reg .b)
  | .bit_7_c => .bit .n7 (.reg .c)
  | .bit_7_d => .bit .n7 (.reg .d)
  | .bit_7_e => .bit .n7 (.reg .e)
  | .bit_7_h => .bit .n7 (.reg .h)
  | .bit_7_l => .bit .n7 (.reg .l)
  | .bit_7_atHL => .bit .n7 .atHL
  | .bit_7_a => .bit .n7 (.reg .a)
  | .res_0_b => .res .n0 (.reg .b)
  | .res_0_c => .res .n0 (.reg .c)
  | .res_0_d => .res .n0 (.reg .d)
  | .res_0_e => .res .n0 (.reg .e)
  | .res_0_h => .res .n0 (.reg .h)
  | .res_0_l => .res .n0 (.reg .l)
  | .res_0_atHL => .res .n0 .atHL
  | .res_0_a => .res .n0 (.reg .a)
  | .res_1_b => .res .n1 (.reg .b)
  | .res_1_c => .res .n1 (.reg .c)
  | .res_1_d => .res .n1 (.reg .d)
  | .res_1_e => .res .n1 (.reg .e)
  | .res_1_h => .res .n1 (.reg .h)
  | .res_1_l => .res .n1 (.reg .l)
  | .res_1_atHL => .res .n1 .atHL
  | .res_1_a => .res .n1 (.reg .a)
  | .res_2_b => .res .n2 (.reg .b)
  | .res_2_c => .res .n2 (.reg .c)
  | .res_2_d => .res .n2 (.reg .d)
  | .res_2_e => .res .n2 (.reg .e)
  | .res_2_h => .res .n2 (.reg .h)
  | .res_2_l => .res .n2 (.reg .l)
  | .res_2_atHL => .res .n2 .atHL
  | .res_2_a => .res .n2 (.reg .a)
  | .res_3_b => .res .n3 (.reg .b)
  | .res_3_c => .res .n3 (.reg .c)
  | .res_3_d => .res .n3 (.reg .d)
  | .res_3_e => .res .n3 (.reg .e)
  | .res_3_h => .res .n3 (.reg .h)
  | .res_3_l => .res .n3 (.reg .l)
  | .res_3_atHL => .res .n3 .atHL
  | .res_3_a => .res .n3 (.reg .a)
  | .res_4_b => .res .n4 (.reg .b)
  | .res_4_c => .res .n4 (.reg .c)
  | .res_4_d => .res .n4 (.reg .d)
  | .res_4_e => .res .n4 (.reg .e)
  | .res_4_h => .res .n4 (.reg .h)
  | .res_4_l => .res .n4 (.reg .l)
  | .res_4_atHL => .res .n4 .atHL
  | .res_4_a => .res .n4 (.reg .a)
  | .res_5_b => .res .n5 (.reg .b)
  | .res_5_c => .res .n5 (.reg .c)
  | .res_5_d => .res .n5 (.reg .d)
  | .res_5_e => .res .n5 (.reg .e)
  | .res_5_h => .res .n5 (.reg .h)
  | .res_5_l => .res .n5 (.reg .l)
  | .res_5_atHL => .res .n5 .atHL
  | .res_5_a => .res .n5 (.reg .a)
  | .res_6_b => .res .n6 (.reg .b)
  | .res_6_c => .res .n6 (.reg .c)
  | .res_6_d => .res .n6 (.reg .d)
  | .res_6_e => .res .n6 (.reg .e)
  | .res_6_h => .res .n6 (.reg .h)
  | .res_6_l => .res .n6 (.reg .l)
  | .res_6_atHL => .res .n6 .atHL
  | .res_6_a => .res .n6 (.reg .a)
  | .res_7_b => .res .n7 (.reg .b)
  | .res_7_c => .res .n7 (.reg .c)
  | .res_7_d => .res .n7 (.reg .d)
  | .res_7_e => .res .n7 (.reg .e)
  | .res_7_h => .res .n7 (.reg .h)
  | .res_7_l => .res .n7 (.reg .l)
  | .res_7_atHL => .res .n7 .atHL
  | .res_7_a => .res .n7 (.reg .a)
  | .set_0_b => .set .n0 (.reg .b)
  | .set_0_c => .set .n0 (.reg .c)
  | .set_0_d => .set .n0 (.reg .d)
  | .set_0_e => .set .n0 (.reg .e)
  | .set_0_h => .set .n0 (.reg .h)
  | .set_0_l => .set .n0 (.reg .l)
  | .set_0_atHL => .set .n0 .atHL
  | .set_0_a => .set .n0 (.reg .a)
  | .set_1_b => .set .n1 (.reg .b)
  | .set_1_c => .set .n1 (.reg .c)
  | .set_1_d => .set .n1 (.reg .d)
  | .set_1_e => .set .n1 (.reg .e)
  | .set_1_h => .set .n1 (.reg .h)
  | .set_1_l => .set .n1 (.reg .l)
  | .set_1_atHL => .set .n1 .atHL
  | .set_1_a => .set .n1 (.reg .a)
  | .set_2_b => .set .n2 (.reg .b)
  | .set_2_c => .set .n2 (.reg .c)
  | .set_2_d => .set .n2 (.reg .d)
  | .set_2_e => .set .n2 (.reg .e)
  | .set_2_h => .set .n2 (.reg .h)
  | .set_2_l => .set .n2 (.reg .l)
  | .set_2_atHL => .set .n2 .atHL
  | .set_2_a => .set .n2 (.reg .a)
  | .set_3_b => .set .n3 (.reg .b)
  | .set_3_c => .set .n3 (.reg .c)
  | .set_3_d => .set .n3 (.reg .d)
  | .set_3_e => .set .n3 (.reg .e)
  | .set_3_h => .set .n3 (.reg .h)
  | .set_3_l => .set .n3 (.reg .l)
  | .set_3_atHL => .set .n3 .atHL
  | .set_3_a => .set .n3 (.reg .a)
  | .set_4_b => .set .n4 (.reg .b)
  | .set_4_c => .set .n4 (.reg .c)
  | .set_4_d => .set .n4 (.reg .d)
  | .set_4_e => .set .n4 (.reg .e)
  | .set_4_h => .set .n4 (.reg .h)
  | .set_4_l => .set .n4 (.reg .l)
  | .set_4_atHL => .set .n4 .atHL
  | .set_4_a => .set .n4 (.reg .a)
  | .set_5_b => .set .n5 (.reg .b)
  | .set_5_c => .set .n5 (.reg .c)
  | .set_5_d => .set .n5 (.reg .d)
  | .set_5_e => .set .n5 (.reg .e)
  | .set_5_h => .set .n5 (.reg .h)
  | .set_5_l => .set .n5 (.reg .l)
  | .set_5_atHL => .set .n5 .atHL
  | .set_5_a => .set .n5 (.reg .a)
  | .set_6_b => .set .n6 (.reg .b)
  | .set_6_c => .set .n6 (.reg .c)
  | .set_6_d => .set .n6 (.reg .d)
  | .set_6_e => .set .n6 (.reg .e)
  | .set_6_h => .set .n6 (.reg .h)
  | .set_6_l => .set .n6 (.reg .l)
  | .set_6_atHL => .set .n6 .atHL
  | .set_6_a => .set .n6 (.reg .a)
  | .set_7_b => .set .n7 (.reg .b)
  | .set_7_c => .set .n7 (.reg .c)
  | .set_7_d => .set .n7 (.reg .d)
  | .set_7_e => .set .n7 (.reg .e)
  | .set_7_h => .set .n7 (.reg .h)
  | .set_7_l => .set .n7 (.reg .l)
  | .set_7_atHL => .set .n7 .atHL
  | .set_7_a => .set .n7 (.reg .a)

end Sys2Proof
end

