-- ==== Sys2Proof/WellFormed.lean ====
section
/-! DEFINITION. Which terms of `Instr` are instructions. Every operand is a byte or a word, so every value of it fits its field
(30_encoding.md R107); the one check is that the prefix row stands for no instruction of its own (46_system.md R285). -/

namespace Sys2Proof

/-- `PREFIX CB` "is not an instruction of its own: it selects the extended table for the byte that follows" (R285): its words are those of
the extended rows. Every other term is an instruction, the eleven undefined bytes' rows among them. -/
def WellFormed (i : Instr) : Bool :=
  match i with
  | .prefix_cb _ => false
  | _ => true

end Sys2Proof
end

