-- ==== Sys2Proof/Decode.lean ====
section
/-! DEFINITION. Decoding, by the bit patterns of 30_encoding.md R102 to R108 and R110, and the encoder, by the byte tables R109 and R111. -/

namespace Sys2Proof

/-! ## Fields and operand indexes -/

/-- `x = op[7:6]` (R102). -/
def fieldX (op : Byte) : Nat := op.toNat / 64

/-- `y = op[5:3]` (R102). -/
def fieldY (op : Byte) : Nat := op.toNat / 8 % 8

/-- `z = op[2:0]` (R102). -/
def fieldZ (op : Byte) : Nat := op.toNat % 8

/-- `r[i]` (R103). -/
def locOf (i : Nat) : Loc8 :=
  match i with
  | 0 => .reg .b
  | 1 => .reg .c
  | 2 => .reg .d
  | 3 => .reg .e
  | 4 => .reg .h
  | 5 => .reg .l
  | 6 => .atHL
  | _ => .reg .a

/-- `rp[i]` (R104). -/
def pairOf (i : Nat) : Pair :=
  match i with
  | 0 => .bc
  | 1 => .de
  | 2 => .hl
  | _ => .sp

/-- `rp2[i]` (R104). -/
def stackPairOf (i : Nat) : StackPair :=
  match i with
  | 0 => .bc
  | 1 => .de
  | 2 => .hl
  | _ => .af

/-- The pointer of the patterns `00 ppq 010` (R108). -/
def pointerOf (i : Nat) : Pointer :=
  match i with
  | 0 => .bc
  | 1 => .de
  | 2 => .hlInc
  | _ => .hlDec

/-- Condition codes (R105). -/
def condOf (i : Nat) : Cond :=
  match i with
  | 0 => .nz
  | 1 => .z
  | 2 => .nc
  | _ => .c

/-- `alu[a]` (R106). -/
def aluOf (i : Nat) : AluOp :=
  match i with
  | 0 => .add
  | 1 => .adc
  | 2 => .sub
  | 3 => .sbc
  | 4 => .and
  | 5 => .xor
  | 6 => .or
  | _ => .cp

/-- `rot[o]` (R106). -/
def rotOf (i : Nat) : RotOp :=
  match i with
  | 0 => .rlc
  | 1 => .rrc
  | 2 => .rl
  | 3 => .rr
  | 4 => .sla
  | 5 => .sra
  | 6 => .swap
  | _ => .srl

/-- A three-bit field as a bit index or an `RST` target (R107). -/
def threeOf (i : Nat) : Three :=
  match i with
  | 0 => .n0
  | 1 => .n1
  | 2 => .n2
  | 3 => .n3
  | 4 => .n4
  | 5 => .n5
  | 6 => .n6
  | _ => .n7

/-! ## The base table (R108) and the extended table (R110) -/

/-- Patterns `00 yyy zzz`. -/
def decodeX0 (y z : Nat) (n : Byte) (nn : Word) : Form :=
  match z with
  | 0 =>
    match y with
    | 0 => .nop
    | 1 => .ldAtNnSp nn
    | 2 => .stop n
    | 3 => .jr n
    | _ => .jrCc (condOf (y - 4)) n
  | 1 => if y % 2 = 0 then .ldPairNn (pairOf (y / 2)) nn else .addHlPair (pairOf (y / 2))
  | 2 => if y % 2 = 0 then .ldAtPtrA (pointerOf (y / 2)) else .ldAAtPtr (pointerOf (y / 2))
  | 3 => if y % 2 = 0 then .incPair (pairOf (y / 2)) else .decPair (pairOf (y / 2))
  | 4 => .inc (locOf y)
  | 5 => .dec (locOf y)
  | 6 => .ldN (locOf y) n
  | _ =>
    match y with
    | 0 => .accRot .rlca
    | 1 => .accRot .rrca
    | 2 => .accRot .rla
    | 3 => .accRot .rra
    | 4 => .daa
    | 5 => .cpl
    | 6 => .scf
    | _ => .ccf

/-- Patterns `01 yyy zzz`: the register loads, and `HALT` where both operands would be `(HL)`. -/
def decodeX1 (y z : Nat) : Form :=
  match locOf y, locOf z with
  | .reg dst, .reg src => .ldReg dst src
  | .reg dst, .atHL => .ldFromHL dst
  | .atHL, .reg src => .ldToHL src
  | .atHL, .atHL => .halt

/-- Patterns `11 yyy zzz`, the eleven undefined bytes of R118 among them. -/
def decodeX3 (y z : Nat) (n : Byte) (nn : Word) : Form :=
  match z with
  | 0 =>
    match y with
    | 4 => .ldhAtNA n
    | 5 => .addSpE n
    | 6 => .ldhAAtN n
    | 7 => .ldHlSpE n
    | _ => .retCc (condOf y)
  | 1 =>
    match y with
    | 1 => .ret
    | 3 => .reti
    | 5 => .jpHl
    | 7 => .ldSpHl
    | _ => .pop (stackPairOf (y / 2))
  | 2 =>
    match y with
    | 4 => .ldhAtCA
    | 5 => .ldAtNnA nn
    | 6 => .ldhAAtC
    | 7 => .ldAAtNn nn
    | _ => .jpCc (condOf y) nn
  | 3 =>
    match y with
    | 0 => .jpNn nn
    | 1 => .prefixCb n
    | 2 => .undefined .d3
    | 3 => .undefined .db
    | 4 => .undefined .e3
    | 5 => .undefined .eb
    | 6 => .di
    | _ => .ei
  | 4 =>
    match y with
    | 4 => .undefined .e4
    | 5 => .undefined .ec
    | 6 => .undefined .f4
    | 7 => .undefined .fc
    | _ => .callCc (condOf y) nn
  | 5 =>
    match y with
    | 1 => .callNn nn
    | 3 => .undefined .dd
    | 5 => .undefined .ed
    | 7 => .undefined .fd
    | _ => .push (stackPairOf (y / 2))
  | 6 => .aluN (aluOf y) n
  | _ => .rst (threeOf y)

/-- The base table (R108): the operation of opcode byte `op`, `n` the byte after it and `nn` the word after it. -/
def decodeBase (op n : Byte) (nn : Word) : Form :=
  match fieldX op with
  | 0 => decodeX0 (fieldY op) (fieldZ op) n nn
  | 1 => decodeX1 (fieldY op) (fieldZ op)
  | 2 => .alu (aluOf (fieldY op)) (locOf (fieldZ op))
  | _ => decodeX3 (fieldY op) (fieldZ op) n nn

/-- The extended table (R110): all 256 values are defined. -/
def decodeExtended (op2 : Byte) : Form :=
  match fieldX op2 with
  | 0 => .rot (rotOf (fieldY op2)) (locOf (fieldZ op2))
  | 1 => .bit (threeOf (fieldY op2)) (locOf (fieldZ op2))
  | 2 => .res (threeOf (fieldY op2)) (locOf (fieldZ op2))
  | _ => .set (threeOf (fieldY op2)) (locOf (fieldZ op2))

/-- The default of `PREFIX` (30_encoding.md R112; D2). -/
def prefixByte : Byte := 0xCB

/-- The form of the instruction whose first bytes are `op`, `b1`, `b2` (R101 steps 4 and 5; an immediate `nn` has its low byte first, R107). `pfx` is the
parameter `PREFIX`: its byte selects the extended table, whatever the base table says of it (log 16). -/
def decodeForm (pfx op b1 b2 : Byte) : Form :=
  if op = pfx then decodeExtended b1 else decodeBase op b1 (cat b2 b1)

/-- The instruction whose first bytes are `op`, `b1`, `b2`. -/
def decodeInstr (pfx op b1 b2 : Byte) : Instr := (decodeForm pfx op b1 b2).toInstr

/-- The number of bytes of an instruction, by its format (R100). -/
def Form.length (f : Form) : Nat :=
  match f with
  | .ldAtNnSp _ | .ldPairNn _ _ | .jpCc _ _ | .ldAtNnA _ | .ldAAtNn _ | .jpNn _ | .callCc _ _ | .callNn _ => 3
  | .stop _ | .jr _ | .jrCc _ _ | .ldN _ _ | .ldhAtNA _ | .addSpE _ | .ldhAAtN _ | .ldHlSpE _ | .aluN _ _ | .prefixCb _
  | .rot _ _ | .bit _ _ | .res _ _ | .set _ _ => 2
  | .nop | .addHlPair _ | .ldAtPtrA _ | .ldAAtPtr _ | .incPair _ | .decPair _ | .inc _ | .dec _ | .accRot _ | .daa | .cpl | .scf | .ccf
  | .ldReg _ _ | .ldFromHL _ | .ldToHL _ | .halt | .alu _ _ | .retCc _ | .pop _ | .ret | .reti | .jpHl | .ldSpHl | .ldhAtCA | .ldhAAtC
  | .di | .ei | .push _ | .rst _ | .undefined _ => 1

/-- The length of an instruction from its first byte alone (R112). -/
def lengthOf (pfx op : Byte) : Nat := if op = pfx then 2 else (decodeBase op 0 0).length

/-- Why a list of bytes holds no whole instruction. Every first byte has a table entry (R118), so only missing bytes are rejected. -/
inductive DecodeReject where
  /-- there is no byte at all -/
  | noByte
  /-- operand bytes of the instruction that begins with `op` are missing -/
  | truncated (op : Byte)
deriving DecidableEq, Repr

/-- The decoder: the instruction at the front of a list of bytes and the bytes after it. -/
def decode (pfx : Byte) (bytes : List Byte) : Except DecodeReject (Instr × List Byte) :=
  match bytes with
  | [] => .error .noByte
  | op :: rest =>
    match lengthOf pfx op with
    | 1 => .ok (decodeInstr pfx op 0 0, rest)
    | 2 =>
      match rest with
      | b1 :: rest' => .ok (decodeInstr pfx op b1 0, rest')
      | [] => .error (.truncated op)
    | _ =>
      match rest with
      | b1 :: b2 :: rest' => .ok (decodeInstr pfx op b1 b2, rest')
      | _ => .error (.truncated op)

/-- The three bytes, the first at the lowest address, of a word numbered as spec/opcode_table.json numbers its rows (log 17): a 16-bit
word whose upper byte is 0xCB is an extended row's `byte0 * 256 + byte1` (30_encoding.md R117); any other word has its first byte in
bits 7 to 0, the next in bits 15 to 8. -/
def tableWordBytes (nbits w : Nat) : List Byte :=
  let v := w % 2 ^ nbits
  if nbits = 16 ∧ v / 256 = 0xCB then [BitVec.ofNat 8 (v / 256), BitVec.ofNat 8 v, 0]
  else [BitVec.ofNat 8 v, BitVec.ofNat 8 (v / 256), BitVec.ofNat 8 (v / 65536)]

/-- The instruction the decoder reads from a word of spec/opcode_table.json, whose `PREFIX` is 0xCB. -/
def decodeTableWord (nbits w : Nat) : Option Instr :=
  match decode prefixByte (tableWordBytes nbits w) with
  | .ok (i, _) => some i
  | .error _ => none

/-! ## The encoder, from the byte tables R109 and R111 -/

/-- The bytes of an instruction, the first at the lowest address; `pfx` is the parameter `PREFIX`. -/
def encode (pfx : Byte) (i : Instr) : List Byte :=
  match i with
  | .nop => [0x00]
  | .ld_bc_nn nn => [0x01, loByte nn, hiByte nn]
  | .ld_atBC_a => [0x02]
  | .inc_bc => [0x03]
  | .inc_b => [0x04]
  | .dec_b => [0x05]
  | .ld_b_n n => [0x06, n]
  | .rlca => [0x07]
  | .ld_atNn_sp nn => [0x08, loByte nn, hiByte nn]
  | .add_hl_bc => [0x09]
  | .ld_a_atBC => [0x0A]
  | .dec_bc => [0x0B]
  | .inc_c => [0x0C]
  | .dec_c => [0x0D]
  | .ld_c_n n => [0x0E, n]
  | .rrca => [0x0F]
  | .stop pad => [0x10, pad]
  | .ld_de_nn nn => [0x11, loByte nn, hiByte nn]
  | .ld_atDE_a => [0x12]
  | .inc_de => [0x13]
  | .inc_d => [0x14]
  | .dec_d => [0x15]
  | .ld_d_n n => [0x16, n]
  | .rla => [0x17]
  | .jr_e e => [0x18, e]
  | .add_hl_de => [0x19]
  | .ld_a_atDE => [0x1A]
  | .dec_de => [0x1B]
  | .inc_e => [0x1C]
  | .dec_e => [0x1D]
  | .ld_e_n n => [0x1E, n]
  | .rra => [0x1F]
  | .jr_nz_e e => [0x20, e]
  | .ld_hl_nn nn => [0x21, loByte nn, hiByte nn]
  | .ld_atHLinc_a => [0x22]
  | .inc_hl => [0x23]
  | .inc_h => [0x24]
  | .dec_h => [0x25]
  | .ld_h_n n => [0x26, n]
  | .daa => [0x27]
  | .jr_z_e e => [0x28, e]
  | .add_hl_hl => [0x29]
  | .ld_a_atHLinc => [0x2A]
  | .dec_hl => [0x2B]
  | .inc_l => [0x2C]
  | .dec_l => [0x2D]
  | .ld_l_n n => [0x2E, n]
  | .cpl => [0x2F]
  | .jr_nc_e e => [0x30, e]
  | .ld_sp_nn nn => [0x31, loByte nn, hiByte nn]
  | .ld_atHLdec_a => [0x32]
  | .inc_sp => [0x33]
  | .inc_atHL => [0x34]
  | .dec_atHL => [0x35]
  | .ld_atHL_n n => [0x36, n]
  | .scf => [0x37]
  | .jr_c_e e => [0x38, e]
  | .add_hl_sp => [0x39]
  | .ld_a_atHLdec => [0x3A]
  | .dec_sp => [0x3B]
  | .inc_a => [0x3C]
  | .dec_a => [0x3D]
  | .ld_a_n n => [0x3E, n]
  | .ccf => [0x3F]
  | .ld_b_b => [0x40]
  | .ld_b_c => [0x41]
  | .ld_b_d => [0x42]
  | .ld_b_e => [0x43]
  | .ld_b_h => [0x44]
  | .ld_b_l => [0x45]
  | .ld_b_atHL => [0x46]
  | .ld_b_a => [0x47]
  | .ld_c_b => [0x48]
  | .ld_c_c => [0x49]
  | .ld_c_d => [0x4A]
  | .ld_c_e => [0x4B]
  | .ld_c_h => [0x4C]
  | .ld_c_l => [0x4D]
  | .ld_c_atHL => [0x4E]
  | .ld_c_a => [0x4F]
  | .ld_d_b => [0x50]
  | .ld_d_c => [0x51]
  | .ld_d_d => [0x52]
  | .ld_d_e => [0x53]
  | .ld_d_h => [0x54]
  | .ld_d_l => [0x55]
  | .ld_d_atHL => [0x56]
  | .ld_d_a => [0x57]
  | .ld_e_b => [0x58]
  | .ld_e_c => [0x59]
  | .ld_e_d => [0x5A]
  | .ld_e_e => [0x5B]
  | .ld_e_h => [0x5C]
  | .ld_e_l => [0x5D]
  | .ld_e_atHL => [0x5E]
  | .ld_e_a => [0x5F]
  | .ld_h_b => [0x60]
  | .ld_h_c => [0x61]
  | .ld_h_d => [0x62]
  | .ld_h_e => [0x63]
  | .ld_h_h => [0x64]
  | .ld_h_l => [0x65]
  | .ld_h_atHL => [0x66]
  | .ld_h_a => [0x67]
  | .ld_l_b => [0x68]
  | .ld_l_c => [0x69]
  | .ld_l_d => [0x6A]
  | .ld_l_e => [0x6B]
  | .ld_l_h => [0x6C]
  | .ld_l_l => [0x6D]
  | .ld_l_atHL => [0x6E]
  | .ld_l_a => [0x6F]
  | .ld_atHL_b => [0x70]
  | .ld_atHL_c => [0x71]
  | .ld_atHL_d => [0x72]
  | .ld_atHL_e => [0x73]
  | .ld_atHL_h => [0x74]
  | .ld_atHL_l => [0x75]
  | .halt => [0x76]
  | .ld_atHL_a => [0x77]
  | .ld_a_b => [0x78]
  | .ld_a_c => [0x79]
  | .ld_a_d => [0x7A]
  | .ld_a_e => [0x7B]
  | .ld_a_h => [0x7C]
  | .ld_a_l => [0x7D]
  | .ld_a_atHL => [0x7E]
  | .ld_a_a => [0x7F]
  | .add_a_b => [0x80]
  | .add_a_c => [0x81]
  | .add_a_d => [0x82]
  | .add_a_e => [0x83]
  | .add_a_h => [0x84]
  | .add_a_l => [0x85]
  | .add_a_atHL => [0x86]
  | .add_a_a => [0x87]
  | .adc_a_b => [0x88]
  | .adc_a_c => [0x89]
  | .adc_a_d => [0x8A]
  | .adc_a_e => [0x8B]
  | .adc_a_h => [0x8C]
  | .adc_a_l => [0x8D]
  | .adc_a_atHL => [0x8E]
  | .adc_a_a => [0x8F]
  | .sub_b => [0x90]
  | .sub_c => [0x91]
  | .sub_d => [0x92]
  | .sub_e => [0x93]
  | .sub_h => [0x94]
  | .sub_l => [0x95]
  | .sub_atHL => [0x96]
  | .sub_a => [0x97]
  | .sbc_a_b => [0x98]
  | .sbc_a_c => [0x99]
  | .sbc_a_d => [0x9A]
  | .sbc_a_e => [0x9B]
  | .sbc_a_h => [0x9C]
  | .sbc_a_l => [0x9D]
  | .sbc_a_atHL => [0x9E]
  | .sbc_a_a => [0x9F]
  | .and_b => [0xA0]
  | .and_c => [0xA1]
  | .and_d => [0xA2]
  | .and_e => [0xA3]
  | .and_h => [0xA4]
  | .and_l => [0xA5]
  | .and_atHL => [0xA6]
  | .and_a => [0xA7]
  | .xor_b => [0xA8]
  | .xor_c => [0xA9]
  | .xor_d => [0xAA]
  | .xor_e => [0xAB]
  | .xor_h => [0xAC]
  | .xor_l => [0xAD]
  | .xor_atHL => [0xAE]
  | .xor_a => [0xAF]
  | .or_b => [0xB0]
  | .or_c => [0xB1]
  | .or_d => [0xB2]
  | .or_e => [0xB3]
  | .or_h => [0xB4]
  | .or_l => [0xB5]
  | .or_atHL => [0xB6]
  | .or_a => [0xB7]
  | .cp_b => [0xB8]
  | .cp_c => [0xB9]
  | .cp_d => [0xBA]
  | .cp_e => [0xBB]
  | .cp_h => [0xBC]
  | .cp_l => [0xBD]
  | .cp_atHL => [0xBE]
  | .cp_a => [0xBF]
  | .ret_nz => [0xC0]
  | .pop_bc => [0xC1]
  | .jp_nz_nn nn => [0xC2, loByte nn, hiByte nn]
  | .jp_nn nn => [0xC3, loByte nn, hiByte nn]
  | .call_nz_nn nn => [0xC4, loByte nn, hiByte nn]
  | .push_bc => [0xC5]
  | .add_a_n n => [0xC6, n]
  | .rst_00 => [0xC7]
  | .ret_z => [0xC8]
  | .ret => [0xC9]
  | .jp_z_nn nn => [0xCA, loByte nn, hiByte nn]
  | .prefix_cb op2 => [0xCB, op2]
  | .call_z_nn nn => [0xCC, loByte nn, hiByte nn]
  | .call_nn nn => [0xCD, loByte nn, hiByte nn]
  | .adc_a_n n => [0xCE, n]
  | .rst_08 => [0xCF]
  | .ret_nc => [0xD0]
  | .pop_de => [0xD1]
  | .jp_nc_nn nn => [0xD2, loByte nn, hiByte nn]
  | .undefined_d3 => [0xD3]
  | .call_nc_nn nn => [0xD4, loByte nn, hiByte nn]
  | .push_de => [0xD5]
  | .sub_n n => [0xD6, n]
  | .rst_10 => [0xD7]
  | .ret_c => [0xD8]
  | .reti => [0xD9]
  | .jp_c_nn nn => [0xDA, loByte nn, hiByte nn]
  | .undefined_db => [0xDB]
  | .call_c_nn nn => [0xDC, loByte nn, hiByte nn]
  | .undefined_dd => [0xDD]
  | .sbc_a_n n => [0xDE, n]
  | .rst_18 => [0xDF]
  | .ldh_atN_a n => [0xE0, n]
  | .pop_hl => [0xE1]
  | .ldh_atC_a => [0xE2]
  | .undefined_e3 => [0xE3]
  | .undefined_e4 => [0xE4]
  | .push_hl => [0xE5]
  | .and_n n => [0xE6, n]
  | .rst_20 => [0xE7]
  | .add_sp_e e => [0xE8, e]
  | .jp_hl => [0xE9]
  | .ld_atNn_a nn => [0xEA, loByte nn, hiByte nn]
  | .undefined_eb => [0xEB]
  | .undefined_ec => [0xEC]
  | .undefined_ed => [0xED]
  | .xor_n n => [0xEE, n]
  | .rst_28 => [0xEF]
  | .ldh_a_atN n => [0xF0, n]
  | .pop_af => [0xF1]
  | .ldh_a_atC => [0xF2]
  | .di => [0xF3]
  | .undefined_f4 => [0xF4]
  | .push_af => [0xF5]
  | .or_n n => [0xF6, n]
  | .rst_30 => [0xF7]
  | .ld_hl_spPlusE e => [0xF8, e]
  | .ld_sp_hl => [0xF9]
  | .ld_a_atNn nn => [0xFA, loByte nn, hiByte nn]
  | .ei => [0xFB]
  | .undefined_fc => [0xFC]
  | .undefined_fd => [0xFD]
  | .cp_n n => [0xFE, n]
  | .rst_38 => [0xFF]
  | .rlc_b => [pfx, 0x00]
  | .rlc_c => [pfx, 0x01]
  | .rlc_d => [pfx, 0x02]
  | .rlc_e => [pfx, 0x03]
  | .rlc_h => [pfx, 0x04]
  | .rlc_l => [pfx, 0x05]
  | .rlc_atHL => [pfx, 0x06]
  | .rlc_a => [pfx, 0x07]
  | .rrc_b => [pfx, 0x08]
  | .rrc_c => [pfx, 0x09]
  | .rrc_d => [pfx, 0x0A]
  | .rrc_e => [pfx, 0x0B]
  | .rrc_h => [pfx, 0x0C]
  | .rrc_l => [pfx, 0x0D]
  | .rrc_atHL => [pfx, 0x0E]
  | .rrc_a => [pfx, 0x0F]
  | .rl_b => [pfx, 0x10]
  | .rl_c => [pfx, 0x11]
  | .rl_d => [pfx, 0x12]
  | .rl_e => [pfx, 0x13]
  | .rl_h => [pfx, 0x14]
  | .rl_l => [pfx, 0x15]
  | .rl_atHL => [pfx, 0x16]
  | .rl_a => [pfx, 0x17]
  | .rr_b => [pfx, 0x18]
  | .rr_c => [pfx, 0x19]
  | .rr_d => [pfx, 0x1A]
  | .rr_e => [pfx, 0x1B]
  | .rr_h => [pfx, 0x1C]
  | .rr_l => [pfx, 0x1D]
  | .rr_atHL => [pfx, 0x1E]
  | .rr_a => [pfx, 0x1F]
  | .sla_b => [pfx, 0x20]
  | .sla_c => [pfx, 0x21]
  | .sla_d => [pfx, 0x22]
  | .sla_e => [pfx, 0x23]
  | .sla_h => [pfx, 0x24]
  | .sla_l => [pfx, 0x25]
  | .sla_atHL => [pfx, 0x26]
  | .sla_a => [pfx, 0x27]
  | .sra_b => [pfx, 0x28]
  | .sra_c => [pfx, 0x29]
  | .sra_d => [pfx, 0x2A]
  | .sra_e => [pfx, 0x2B]
  | .sra_h => [pfx, 0x2C]
  | .sra_l => [pfx, 0x2D]
  | .sra_atHL => [pfx, 0x2E]
  | .sra_a => [pfx, 0x2F]
  | .swap_b => [pfx, 0x30]
  | .swap_c => [pfx, 0x31]
  | .swap_d => [pfx, 0x32]
  | .swap_e => [pfx, 0x33]
  | .swap_h => [pfx, 0x34]
  | .swap_l => [pfx, 0x35]
  | .swap_atHL => [pfx, 0x36]
  | .swap_a => [pfx, 0x37]
  | .srl_b => [pfx, 0x38]
  | .srl_c => [pfx, 0x39]
  | .srl_d => [pfx, 0x3A]
  | .srl_e => [pfx, 0x3B]
  | .srl_h => [pfx, 0x3C]
  | .srl_l => [pfx, 0x3D]
  | .srl_atHL => [pfx, 0x3E]
  | .srl_a => [pfx, 0x3F]
  | .bit_0_b => [pfx, 0x40]
  | .bit_0_c => [pfx, 0x41]
  | .bit_0_d => [pfx, 0x42]
  | .bit_0_e => [pfx, 0x43]
  | .bit_0_h => [pfx, 0x44]
  | .bit_0_l => [pfx, 0x45]
  | .bit_0_atHL => [pfx, 0x46]
  | .bit_0_a => [pfx, 0x47]
  | .bit_1_b => [pfx, 0x48]
  | .bit_1_c => [pfx, 0x49]
  | .bit_1_d => [pfx, 0x4A]
  | .bit_1_e => [pfx, 0x4B]
  | .bit_1_h => [pfx, 0x4C]
  | .bit_1_l => [pfx, 0x4D]
  | .bit_1_atHL => [pfx, 0x4E]
  | .bit_1_a => [pfx, 0x4F]
  | .bit_2_b => [pfx, 0x50]
  | .bit_2_c => [pfx, 0x51]
  | .bit_2_d => [pfx, 0x52]
  | .bit_2_e => [pfx, 0x53]
  | .bit_2_h => [pfx, 0x54]
  | .bit_2_l => [pfx, 0x55]
  | .bit_2_atHL => [pfx, 0x56]
  | .bit_2_a => [pfx, 0x57]
  | .bit_3_b => [pfx, 0x58]
  | .bit_3_c => [pfx, 0x59]
  | .bit_3_d => [pfx, 0x5A]
  | .bit_3_e => [pfx, 0x5B]
  | .bit_3_h => [pfx, 0x5C]
  | .bit_3_l => [pfx, 0x5D]
  | .bit_3_atHL => [pfx, 0x5E]
  | .bit_3_a => [pfx, 0x5F]
  | .bit_4_b => [pfx, 0x60]
  | .bit_4_c => [pfx, 0x61]
  | .bit_4_d => [pfx, 0x62]
  | .bit_4_e => [pfx, 0x63]
  | .bit_4_h => [pfx, 0x64]
  | .bit_4_l => [pfx, 0x65]
  | .bit_4_atHL => [pfx, 0x66]
  | .bit_4_a => [pfx, 0x67]
  | .bit_5_b => [pfx, 0x68]
  | .bit_5_c => [pfx, 0x69]
  | .bit_5_d => [pfx, 0x6A]
  | .bit_5_e => [pfx, 0x6B]
  | .bit_5_h => [pfx, 0x6C]
  | .bit_5_l => [pfx, 0x6D]
  | .bit_5_atHL => [pfx, 0x6E]
  | .bit_5_a => [pfx, 0x6F]
  | .bit_6_b => [pfx, 0x70]
  | .bit_6_c => [pfx, 0x71]
  | .bit_6_d => [pfx, 0x72]
  | .bit_6_e => [pfx, 0x73]
  | .bit_6_h => [pfx, 0x74]
  | .bit_6_l => [pfx, 0x75]
  | .bit_6_atHL => [pfx, 0x76]
  | .bit_6_a => [pfx, 0x77]
  | .bit_7_b => [pfx, 0x78]
  | .bit_7_c => [pfx, 0x79]
  | .bit_7_d => [pfx, 0x7A]
  | .bit_7_e => [pfx, 0x7B]
  | .bit_7_h => [pfx, 0x7C]
  | .bit_7_l => [pfx, 0x7D]
  | .bit_7_atHL => [pfx, 0x7E]
  | .bit_7_a => [pfx, 0x7F]
  | .res_0_b => [pfx, 0x80]
  | .res_0_c => [pfx, 0x81]
  | .res_0_d => [pfx, 0x82]
  | .res_0_e => [pfx, 0x83]
  | .res_0_h => [pfx, 0x84]
  | .res_0_l => [pfx, 0x85]
  | .res_0_atHL => [pfx, 0x86]
  | .res_0_a => [pfx, 0x87]
  | .res_1_b => [pfx, 0x88]
  | .res_1_c => [pfx, 0x89]
  | .res_1_d => [pfx, 0x8A]
  | .res_1_e => [pfx, 0x8B]
  | .res_1_h => [pfx, 0x8C]
  | .res_1_l => [pfx, 0x8D]
  | .res_1_atHL => [pfx, 0x8E]
  | .res_1_a => [pfx, 0x8F]
  | .res_2_b => [pfx, 0x90]
  | .res_2_c => [pfx, 0x91]
  | .res_2_d => [pfx, 0x92]
  | .res_2_e => [pfx, 0x93]
  | .res_2_h => [pfx, 0x94]
  | .res_2_l => [pfx, 0x95]
  | .res_2_atHL => [pfx, 0x96]
  | .res_2_a => [pfx, 0x97]
  | .res_3_b => [pfx, 0x98]
  | .res_3_c => [pfx, 0x99]
  | .res_3_d => [pfx, 0x9A]
  | .res_3_e => [pfx, 0x9B]
  | .res_3_h => [pfx, 0x9C]
  | .res_3_l => [pfx, 0x9D]
  | .res_3_atHL => [pfx, 0x9E]
  | .res_3_a => [pfx, 0x9F]
  | .res_4_b => [pfx, 0xA0]
  | .res_4_c => [pfx, 0xA1]
  | .res_4_d => [pfx, 0xA2]
  | .res_4_e => [pfx, 0xA3]
  | .res_4_h => [pfx, 0xA4]
  | .res_4_l => [pfx, 0xA5]
  | .res_4_atHL => [pfx, 0xA6]
  | .res_4_a => [pfx, 0xA7]
  | .res_5_b => [pfx, 0xA8]
  | .res_5_c => [pfx, 0xA9]
  | .res_5_d => [pfx, 0xAA]
  | .res_5_e => [pfx, 0xAB]
  | .res_5_h => [pfx, 0xAC]
  | .res_5_l => [pfx, 0xAD]
  | .res_5_atHL => [pfx, 0xAE]
  | .res_5_a => [pfx, 0xAF]
  | .res_6_b => [pfx, 0xB0]
  | .res_6_c => [pfx, 0xB1]
  | .res_6_d => [pfx, 0xB2]
  | .res_6_e => [pfx, 0xB3]
  | .res_6_h => [pfx, 0xB4]
  | .res_6_l => [pfx, 0xB5]
  | .res_6_atHL => [pfx, 0xB6]
  | .res_6_a => [pfx, 0xB7]
  | .res_7_b => [pfx, 0xB8]
  | .res_7_c => [pfx, 0xB9]
  | .res_7_d => [pfx, 0xBA]
  | .res_7_e => [pfx, 0xBB]
  | .res_7_h => [pfx, 0xBC]
  | .res_7_l => [pfx, 0xBD]
  | .res_7_atHL => [pfx, 0xBE]
  | .res_7_a => [pfx, 0xBF]
  | .set_0_b => [pfx, 0xC0]
  | .set_0_c => [pfx, 0xC1]
  | .set_0_d => [pfx, 0xC2]
  | .set_0_e => [pfx, 0xC3]
  | .set_0_h => [pfx, 0xC4]
  | .set_0_l => [pfx, 0xC5]
  | .set_0_atHL => [pfx, 0xC6]
  | .set_0_a => [pfx, 0xC7]
  | .set_1_b => [pfx, 0xC8]
  | .set_1_c => [pfx, 0xC9]
  | .set_1_d => [pfx, 0xCA]
  | .set_1_e => [pfx, 0xCB]
  | .set_1_h => [pfx, 0xCC]
  | .set_1_l => [pfx, 0xCD]
  | .set_1_atHL => [pfx, 0xCE]
  | .set_1_a => [pfx, 0xCF]
  | .set_2_b => [pfx, 0xD0]
  | .set_2_c => [pfx, 0xD1]
  | .set_2_d => [pfx, 0xD2]
  | .set_2_e => [pfx, 0xD3]
  | .set_2_h => [pfx, 0xD4]
  | .set_2_l => [pfx, 0xD5]
  | .set_2_atHL => [pfx, 0xD6]
  | .set_2_a => [pfx, 0xD7]
  | .set_3_b => [pfx, 0xD8]
  | .set_3_c => [pfx, 0xD9]
  | .set_3_d => [pfx, 0xDA]
  | .set_3_e => [pfx, 0xDB]
  | .set_3_h => [pfx, 0xDC]
  | .set_3_l => [pfx, 0xDD]
  | .set_3_atHL => [pfx, 0xDE]
  | .set_3_a => [pfx, 0xDF]
  | .set_4_b => [pfx, 0xE0]
  | .set_4_c => [pfx, 0xE1]
  | .set_4_d => [pfx, 0xE2]
  | .set_4_e => [pfx, 0xE3]
  | .set_4_h => [pfx, 0xE4]
  | .set_4_l => [pfx, 0xE5]
  | .set_4_atHL => [pfx, 0xE6]
  | .set_4_a => [pfx, 0xE7]
  | .set_5_b => [pfx, 0xE8]
  | .set_5_c => [pfx, 0xE9]
  | .set_5_d => [pfx, 0xEA]
  | .set_5_e => [pfx, 0xEB]
  | .set_5_h => [pfx, 0xEC]
  | .set_5_l => [pfx, 0xED]
  | .set_5_atHL => [pfx, 0xEE]
  | .set_5_a => [pfx, 0xEF]
  | .set_6_b => [pfx, 0xF0]
  | .set_6_c => [pfx, 0xF1]
  | .set_6_d => [pfx, 0xF2]
  | .set_6_e => [pfx, 0xF3]
  | .set_6_h => [pfx, 0xF4]
  | .set_6_l => [pfx, 0xF5]
  | .set_6_atHL => [pfx, 0xF6]
  | .set_6_a => [pfx, 0xF7]
  | .set_7_b => [pfx, 0xF8]
  | .set_7_c => [pfx, 0xF9]
  | .set_7_d => [pfx, 0xFA]
  | .set_7_e => [pfx, 0xFB]
  | .set_7_h => [pfx, 0xFC]
  | .set_7_l => [pfx, 0xFD]
  | .set_7_atHL => [pfx, 0xFE]
  | .set_7_a => [pfx, 0xFF]

/-- The instruction is one of the extended table (R110). -/
def Form.extended (f : Form) : Bool :=
  match f with
  | .rot _ _ | .bit _ _ | .res _ _ | .set _ _ => true
  | _ => false

/-- The instruction has an encoding with this `PREFIX`: it is extended, or its first byte is not the prefix. -/
def encodable (pfx : Byte) (i : Instr) : Bool := i.form.extended || !decide ((encode pfx i).head? = some pfx)

end Sys2Proof
end

