-- ==== Sys2Proof/Config.lean ====
section
/-! DEFINITION. What the spec leaves to the model as a parameter (00_scope.md R7) and its one free value, the joypad read
(60_exceptions.md R370). The parameters' default values are in Machine/ResetValues.lean. -/

namespace Sys2Proof

/-- `UNDEF_OP` (46_system.md R286): what an undefined base opcode does. -/
inductive UndefOp where
  /-- the step has no successor: fault `UndefinedOpcode` (the default) -/
  | fault
  /-- a one-byte instruction that changes nothing but `PC` and costs 4 cycles -/
  | nop
deriving DecidableEq, Repr

/-- `IME_DEFER` (46_system.md R283, R284): whether `EI` and `DI` act through the one-step latch. -/
inductive ImeDefer where
  /-- through `ime_pending` (the default) -/
  | deferred
  /-- `IME` is set at once -/
  | immediate
deriving DecidableEq, Repr

/-- `ADDSP_FLAGS` (43_alu16.md R223): the bit boundaries of H and C for `ADD SP,e` and `LD HL,SP+e`. -/
inductive AddSpFlags where
  /-- carries out of bits 11 and 15 of `SP + sext_16(e)` (the default) -/
  | bits11and15
  /-- carries out of bits 3 and 7 of the unsigned addition of the low bytes -/
  | bits3and7
deriving DecidableEq, Repr

/-- An entry of `CYC`: "cycle cost differs between taken/not-taken and must be reflected in the cycle-cost table" (30_encoding.md R113). An
unconditional instruction has its one figure in both fields. -/
structure Figure where
  taken    : Nat
  notTaken : Nat
deriving DecidableEq, Repr

/-- `CART_RAM_SIZE` by kind (00_scope.md R7; D30). A ROM-only cartridge has none: it "has no state" (10_state.md R43). -/
structure CartRamSize where
  mbc1 : Nat
  mbc2 : Nat
deriving DecidableEq, Repr

/-- The named parameters of R7. They are plain data carried in State, and no step changes them (log 4). `ROM` and `MBC_KIND` stand in the cartridge,
`RESET` is the argument of reset (Machine/State.lean), and the joypad is the free value below. -/
structure Params where
  /-- `PREFIX`: the extended-prefix byte (30_encoding.md R112; D2) -/
  prefixByte     : Byte
  /-- `CYC`: the figures of the 256 base opcodes (30_encoding.md R113; D3) -/
  cyc            : List Figure
  /-- `CYC_CB`: the figures of the 256 extended opcodes (30_encoding.md R114; D3) -/
  cycCb          : List Nat
  /-- `CYC_IDLE`: the cycles a halted or stopped CPU reports (30_encoding.md R101; D4) -/
  cycIdle        : Nat
  /-- `CYC_INT`: the cycles an interrupt dispatch consumes (60_exceptions.md R305; D5) -/
  cycInt         : Nat
  /-- `FRAME_BUDGET`: the cycles of a frame of the orchestrator (60_exceptions.md R311) -/
  frameBudget    : Nat
  cartRamSize    : CartRamSize
  undefOp        : UndefOp
  imeDefer       : ImeDefer
  addSpFlags     : AddSpFlags
  /-- `RESTRICTED_READ`: the byte a read of 0xFEA0 to 0xFEFF returns (20_memory.md R55) -/
  restrictedRead : Byte
  /-- `CART_RAM_OFF_READ`: the byte a read of disabled or absent cartridge RAM returns (20_memory.md R73, R80, R85) -/
  cartRamOffRead : Byte
deriving DecidableEq, Repr

/-- The host's button snapshot: "8 boolean buttons: A,B,Select,Start,Right,Left,Up,Down" (60_exceptions.md R312). -/
structure Buttons where
  a      : Bool
  b      : Bool
  select : Bool
  start  : Bool
  right  : Bool
  left   : Bool
  up     : Bool
  down   : Bool
deriving DecidableEq, Repr

/-- FREE VALUE (log 11). `JoypadRead()`: "a pure function of the current button snapshot and of the values previously written to 0xFF00",
and otherwise any byte (60_exceptions.md R370). It has no body, so nothing can be proved of the value. -/
opaque Config.joypadRead : Buttons → List Byte → Byte

end Sys2Proof
end

