-- ==== Sys2Proof/Machine/Mem.lean ====
section
/-! DEFINITION. Byte memories as sparse lists in one canonical form: the bus array `M` (10_state.md R40), the cartridge image and the
cartridge RAM (R41, R42). -/

namespace Sys2Proof.Machine

/-- A byte memory: the cells that differ from `Memory.unlisted`, by rising address. -/
abbrev Memory := List Host.Cell

/-- What an address that is not listed reads as: "`M` (all cells that are state) 0x00", "`CRAM` 0x00 every cell" (10_state.md R45, D10, D30). -/
def Memory.unlisted : Byte := 0

/-- The byte at an address. -/
def Memory.read (m : Memory) (a : Nat) : Byte :=
  match m with
  | [] => Memory.unlisted
  | (k, v) :: rest => if k = a then v else Memory.read rest a

/-- The memory without a cell for an address. -/
def Memory.erase (m : Memory) (a : Nat) : Memory :=
  match m with
  | [] => []
  | (k, v) :: rest => if k = a then Memory.erase rest a else (k, v) :: Memory.erase rest a

/-- The memory with one more cell, put before the first cell of a higher address. -/
def Memory.insert (m : Memory) (a : Nat) (v : Byte) : Memory :=
  match m with
  | [] => [(a, v)]
  | (k, w) :: rest => if a < k then (a, v) :: (k, w) :: rest else (k, w) :: Memory.insert rest a v

/-- The memory after a byte is stored: writing `Memory.unlisted` removes the cell, so that equal memories are equal lists. -/
def Memory.write (m : Memory) (a : Nat) (v : Byte) : Memory :=
  if v = Memory.unlisted then m.erase a else (m.erase a).insert a v

/-- The canonical form: addresses strictly rising and no cell equal to `Memory.unlisted`. -/
def Memory.wf (m : Memory) : Bool :=
  match m with
  | [] => true
  | (k, v) :: rest => decide (v ≠ Memory.unlisted) && rest.all (fun c => decide (k < c.1)) && Memory.wf rest

/-- The memory that holds a list of bytes from an address on. -/
def Memory.ofBytes (bytes : List Byte) (a : Nat) : Memory :=
  match bytes with
  | [] => []
  | v :: rest =>
    if v = Memory.unlisted then Memory.ofBytes rest (a + 1) else (a, v) :: Memory.ofBytes rest (a + 1)

end Sys2Proof.Machine
end

