-- ==== Sys2Proof/Machine/ResetValues.lean ====
section
/-! DEFINITION. The values of reset: the table of 10_state.md R45 (`RESET`, D10, D25, D27) and the defaults of the parameters (00_scope.md R7).
Log 2, log 4. -/

namespace Sys2Proof.Machine

/-- `A` after reset. -/
def resetA : Byte := 0x01

/-- `F` after reset: Z=1, N=0, H=1, C=1. -/
def resetF : Byte := 0xB0

/-- `B` after reset. -/
def resetB : Byte := 0x00

/-- `C` after reset. -/
def resetC : Byte := 0x13

/-- `D` after reset. -/
def resetD : Byte := 0x00

/-- `E` after reset. -/
def resetE : Byte := 0xD8

/-- `H` after reset. -/
def resetH : Byte := 0x01

/-- `L` after reset. -/
def resetL : Byte := 0x4D

/-- `SP` after reset. -/
def resetSp : Word := 0xFFFE

/-- `PC` after reset: the entry point (70_reset_and_hazards.md R380). -/
def resetPc : Word := 0x0100

/-- `IF` after reset. -/
def resetIf : Byte := 0x00

/-- `IE` after reset. -/
def resetIe : Byte := 0x00

/-- `DIV`, `TIMA`, `TMA` and `TMC` after reset. -/
def resetTimerRegister : Byte := 0x00

/-- `LCDC` after reset. -/
def resetLcdc : Byte := 0x91

/-- `STAT` after reset: the mode bits mirror `OAMSearch`. -/
def resetStat : Byte := 0x02

/-- `SCY`, `SCX`, `LY`, `LYC`, `DMA`, `WY` and `WX` after reset. -/
def resetPpuRegister : Byte := 0x00

/-- `BGP` after reset. -/
def resetBgp : Byte := 0xFC

/-- `OBP0` and `OBP1` after reset. -/
def resetObp : Byte := 0xFF

/-- The length of the cartridge image that stands for "no program loaded": ROM-only, every byte 0x00 (log 3). -/
def blankImageLength : Nat := 0x8000

/-! ## The cycle figures (D3; log 6) -/

/-- One figure, taken or not. -/
def flat (n : Nat) : Figure := { taken := n, notTaken := n }

/-- The two figures of a conditional instruction. -/
def branch (taken notTaken : Nat) : Figure := { taken := taken, notTaken := notTaken }

/-- The entry of a byte to which the table gives no figure: the prefix (30_encoding.md R100) and the undefined bytes (R109). No rule reads it. -/
def noFigure : Figure := flat 0

/-- `CYC`, opcode bytes 0x00 to 0x3F, sixteen a row (30_encoding.md R109). -/
def cycLoads : List Figure :=
  [flat 4, flat 12, flat 8, flat 8, flat 4, flat 4, flat 8, flat 4, flat 20, flat 8, flat 8, flat 8, flat 4, flat 4, flat 8, flat 4] ++
  [flat 4, flat 12, flat 8, flat 8, flat 4, flat 4, flat 8, flat 4, flat 12, flat 8, flat 8, flat 8, flat 4, flat 4, flat 8, flat 4] ++
  [branch 12 8, flat 12, flat 8, flat 8, flat 4, flat 4, flat 8, flat 4, branch 12 8, flat 8, flat 8, flat 8, flat 4, flat 4, flat 8, flat 4] ++
  [branch 12 8, flat 12, flat 8, flat 8, flat 12, flat 12, flat 12, flat 4, branch 12 8, flat 8, flat 8, flat 8, flat 4, flat 4, flat 8, flat 4]

/-- `CYC`, opcode bytes 0x40 to 0xBF (30_encoding.md R109). -/
def cycRegisters : List Figure :=
  [flat 4, flat 4, flat 4, flat 4, flat 4, flat 4, flat 8, flat 4, flat 4, flat 4, flat 4, flat 4, flat 4, flat 4, flat 8, flat 4] ++
  [flat 4, flat 4, flat 4, flat 4, flat 4, flat 4, flat 8, flat 4, flat 4, flat 4, flat 4, flat 4, flat 4, flat 4, flat 8, flat 4] ++
  [flat 4, flat 4, flat 4, flat 4, flat 4, flat 4, flat 8, flat 4, flat 4, flat 4, flat 4, flat 4, flat 4, flat 4, flat 8, flat 4] ++
  [flat 8, flat 8, flat 8, flat 8, flat 8, flat 8, flat 4, flat 8, flat 4, flat 4, flat 4, flat 4, flat 4, flat 4, flat 8, flat 4] ++
  [flat 4, flat 4, flat 4, flat 4, flat 4, flat 4, flat 8, flat 4, flat 4, flat 4, flat 4, flat 4, flat 4, flat 4, flat 8, flat 4] ++
  [flat 4, flat 4, flat 4, flat 4, flat 4, flat 4, flat 8, flat 4, flat 4, flat 4, flat 4, flat 4, flat 4, flat 4, flat 8, flat 4] ++
  [flat 4, flat 4, flat 4, flat 4, flat 4, flat 4, flat 8, flat 4, flat 4, flat 4, flat 4, flat 4, flat 4, flat 4, flat 8, flat 4] ++
  [flat 4, flat 4, flat 4, flat 4, flat 4, flat 4, flat 8, flat 4, flat 4, flat 4, flat 4, flat 4, flat 4, flat 4, flat 8, flat 4]

/-- `CYC`, opcode bytes 0xC0 to 0xFF (30_encoding.md R109). -/
def cycControl : List Figure :=
  [branch 20 8, flat 12, branch 16 12, flat 16, branch 24 12, flat 16, flat 8, flat 16] ++
  [branch 20 8, flat 16, branch 16 12, noFigure, branch 24 12, flat 24, flat 8, flat 16] ++
  [branch 20 8, flat 12, branch 16 12, noFigure, branch 24 12, flat 16, flat 8, flat 16] ++
  [branch 20 8, flat 16, branch 16 12, noFigure, branch 24 12, noFigure, flat 8, flat 16] ++
  [flat 12, flat 12, flat 8, noFigure, noFigure, flat 16, flat 8, flat 16, flat 16, flat 4, flat 16, noFigure, noFigure, noFigure, flat 8, flat 16] ++
  [flat 12, flat 12, flat 8, flat 4, noFigure, flat 16, flat 8, flat 16, flat 12, flat 8, flat 16, flat 4, noFigure, noFigure, flat 8, flat 16]

/-- The default of `CYC` (30_encoding.md R109, R113). -/
def defaultCyc : List Figure := cycLoads ++ cycRegisters ++ cycControl

/-- Sixteen extended opcodes, two operations on the eight operands: 8 for a register, `atHL` for `(HL)` (30_encoding.md R114). -/
def extendedRow (atHL : Nat) : List Nat :=
  [8, 8, 8, 8, 8, 8, atHL, 8, 8, 8, 8, 8, 8, 8, atHL, 8]

/-- The default of `CYC_CB` (30_encoding.md R111, R114): rotates and shifts, `BIT`, `RES`, `SET`, four rows each. -/
def defaultCycCb : List Nat :=
  (extendedRow 16 ++ extendedRow 16 ++ extendedRow 16 ++ extendedRow 16) ++
  (extendedRow 12 ++ extendedRow 12 ++ extendedRow 12 ++ extendedRow 12) ++
  (extendedRow 16 ++ extendedRow 16 ++ extendedRow 16 ++ extendedRow 16) ++
  (extendedRow 16 ++ extendedRow 16 ++ extendedRow 16 ++ extendedRow 16)

/-! ## The parameters (00_scope.md R7; log 4) -/

/-- The defaults of R7: `PREFIX` = 0xCB, the tables above, `CYC_IDLE` = 4, `CYC_INT` = 0, `FRAME_BUDGET` = 70,224, `CART_RAM_SIZE` = 0x8000 and 512,
`UNDEF_OP` = fault, `IME_DEFER` = deferred, `ADDSP_FLAGS` = (11, 15), `RESTRICTED_READ` = `CART_RAM_OFF_READ` = 0xFF. -/
def defaultParams : Params :=
  { prefixByte := 0xCB, cyc := defaultCyc, cycCb := defaultCycCb, cycIdle := 4, cycInt := 0, frameBudget := 70224,
    cartRamSize := { mbc1 := 0x8000, mbc2 := 512 },
    undefOp := .fault, imeDefer := .deferred, addSpFlags := .bits11and15, restrictedRead := 0xFF, cartRamOffRead := 0xFF }

end Sys2Proof.Machine
end

