-- ==== Sys2Proof/Machine/State.lean ====
section
/-! DEFINITION. The state of the machine: everything 10_state.md names, the parameters of 00_scope.md R7 and the host's inputs
(60_exceptions.md R312), and its value after reset (10_state.md R45). -/

namespace Sys2Proof.Machine

/-- `ime_pending`, the "one-step-deferred IME-enable/disable latch" (10_state.md R29). -/
inductive ImeLatch where
  | none
  | enable
  | disable
deriving DecidableEq, Repr

/-- The processor: R20 to R27, R29. -/
structure Cpu where
  a : Byte
  /-- the flag register: Z N H C in bits 7 to 4, bits 3 to 0 hard-wired zero (R22) -/
  f : Byte
  b : Byte
  c : Byte
  d : Byte
  e : Byte
  h : Byte
  l : Byte
  sp : Word
  pc : Word
  halted  : Bool
  stopped : Bool
  imePending : ImeLatch
deriving DecidableEq, Repr

/-- The interrupt controller: IME, IF, IE (R28, R30, R31). -/
structure Interrupts where
  ime   : Bool
  /-- `IF`, at 0xFF0F -/
  iflag : Byte
  /-- `IE`, at 0xFFFF -/
  ie    : Byte
deriving DecidableEq, Repr

/-- The timer: four registers and two hidden accumulators (R32, R33). -/
structure Timer where
  div  : Byte
  tima : Byte
  tma  : Byte
  tmc  : Byte
  divAcc  : Nat
  timaAcc : Nat
deriving DecidableEq, Repr

/-- The pixel unit's modes (R38). -/
inductive Mode where
  | oamSearch
  | pixelTransfer
  | hBlank
  | vBlank
deriving DecidableEq, Repr

/-- The frame buffer's form: rows of shades, the top row first (R39). -/
abbrev Frame := List (List Shade)

/-- The pixel unit: twelve registers in address order, mode, accumulator, frame buffer (R34 to R39). -/
structure PixelUnit where
  lcdc : Byte
  stat : Byte
  scy  : Byte
  scx  : Byte
  ly   : Byte
  lyc  : Byte
  dma  : Byte
  bgp  : Byte
  obp0 : Byte
  obp1 : Byte
  wy   : Byte
  wx   : Byte
  mode : Mode
  /-- `ppu_acc` -/
  acc  : Nat
  /-- `FB` -/
  fb   : Frame
deriving DecidableEq, Repr

/-- The cartridge image `ROM`, "a byte list" (00_scope.md R7): its length and its bytes. -/
structure Image where
  len   : Nat
  cells : Memory
deriving DecidableEq, Repr

/-- MBC1's registers and RAM (R41). -/
structure Mbc1 where
  romBank : BitVec 7
  ramBank : BitVec 2
  romBankingMode : Bool
  ramEnabled : Bool
  cram : Memory
deriving DecidableEq, Repr

/-- MBC2's registers and RAM (R42). -/
structure Mbc2 where
  romBank : BitVec 4
  ramEnabled : Bool
  cram : Memory
deriving DecidableEq, Repr

/-- `MBC_KIND` with the state each kind has (R41 to R43). -/
inductive Mbc where
  | romOnly
  | mbc1 (m : Mbc1)
  | mbc2 (m : Mbc2)
deriving DecidableEq, Repr

/-- The cartridge: image and bank controller (20_memory.md R70). -/
structure Cart where
  image : Image
  mbc   : Mbc
deriving DecidableEq, Repr

/-- What the joypad oracle may depend on: the current button snapshot and the bytes written to 0xFF00, the latest first (60_exceptions.md R370). -/
structure Joypad where
  buttons : Buttons
  writes  : List Byte
deriving DecidableEq, Repr

/-- What the host may do between two machine steps (60_exceptions.md R312). -/
inductive HostAct where
  /-- replace the button snapshot -/
  | setButtons (b : Buttons)
  /-- through the joypad component, `RequestInterrupt(4)` -/
  | joypadInterrupt
deriving DecidableEq, Repr

/-- Why the model gives a step no successor (00_scope.md R13). Neither is visible to a program (60_exceptions.md R300). -/
inductive Fault where
  /-- Raised by the meanings of the eleven undefined bytes when `UNDEF_OP` = fault (46_system.md R286): the byte and its address. Safe: nothing can be
  proved of what such a byte does. -/
  | undefinedOpcode (op : Byte) (addr : Word)
  /-- Raised by a bus read of cartridge ROM at an offset at or beyond the image's length (20_memory.md R88): the bus address and the offset. Safe: nothing
  can be proved of the byte. -/
  | cartOutOfRange (addr : Word) (offset : Nat)
deriving DecidableEq, Repr

/-- Why an instruction has no meaning in the model. -/
inductive Refusal where
  /-- Raised by a dispatch arm whose instruction has no meaning yet; no arm does. Safe: the step has no successor. -/
  | notModelled (mnemonic : String)
deriving DecidableEq, Repr

/-- The whole machine. -/
structure State where
  cpu    : Cpu
  ints   : Interrupts
  timer  : Timer
  ppu    : PixelUnit
  /-- `M`, the bus array: only the cells R40 calls state are ever listed -/
  mem    : Memory
  cart   : Cart
  joypad : Joypad
  /-- parameters (00_scope.md R7): no step changes them -/
  params : Params
  /-- the cycle count the last `execute()` reported (R13, R310) -/
  cycles : Nat
  /-- what the host does before each of the coming steps, the next step's acts first -/
  hostActs : List (List HostAct)
  /-- the frame last handed to the FrameSink (60_exceptions.md R312, R333) -/
  handedFrame : Option Frame
deriving DecidableEq, Repr

/-- The outcome of a meaning and of a step. -/
abbrev Out := Host.Outcome State Fault Refusal

/-- No button pressed (log 11). -/
def Buttons.released : Buttons :=
  { a := false, b := false, select := false, start := false, right := false, left := false, up := false, down := false }

/-- R45. -/
def Cpu.reset : Cpu :=
  { a := resetA, f := resetF, b := resetB, c := resetC, d := resetD, e := resetE, h := resetH, l := resetL,
    sp := resetSp, pc := resetPc, halted := false, stopped := false, imePending := .none }

/-- R45. -/
def Interrupts.reset : Interrupts := { ime := false, iflag := resetIf, ie := resetIe }

/-- R45. -/
def Timer.reset : Timer :=
  { div := resetTimerRegister, tima := resetTimerRegister, tma := resetTimerRegister, tmc := resetTimerRegister,
    divAcc := 0, timaAcc := 0 }

/-- R45: every pixel 0. -/
def Frame.blank : Frame := List.replicate 144 (List.replicate 160 0)

/-- R45. -/
def PixelUnit.reset : PixelUnit :=
  { lcdc := resetLcdc, stat := resetStat, scy := resetPpuRegister, scx := resetPpuRegister, ly := resetPpuRegister,
    lyc := resetPpuRegister, dma := resetPpuRegister, bgp := resetBgp, obp0 := resetObp, obp1 := resetObp,
    wy := resetPpuRegister, wx := resetPpuRegister, mode := .oamSearch, acc := 0, fb := Frame.blank }

/-- R45: `rom_bank` 1 (the source), `ram_bank` 0, ROM-banking mode, RAM disabled (D25), `CRAM` 0x00. -/
def Mbc1.reset : Mbc1 := { romBank := 1, ramBank := 0, romBankingMode := true, ramEnabled := false, cram := [] }

/-- R45: `rom_bank` 1 (the source), RAM disabled (D27), `CRAM` 0. -/
def Mbc2.reset : Mbc2 := { romBank := 1, ramEnabled := false, cram := [] }

/-- `RESET`: "the reset value of every piece of state" (00_scope.md R7, 10_state.md R45). The ROM bank numbers in it are not used: those two reset
values are the source's (R45). -/
structure Reset where
  cpu   : Cpu
  ints  : Interrupts
  timer : Timer
  ppu   : PixelUnit
  mem   : Memory
  mbc1  : Mbc1
  mbc2  : Mbc2
deriving DecidableEq, Repr

/-- The default of `RESET`: the table of R45. -/
def Reset.defaults : Reset :=
  { cpu := Cpu.reset, ints := Interrupts.reset, timer := Timer.reset, ppu := PixelUnit.reset, mem := [], mbc1 := Mbc1.reset, mbc2 := Mbc2.reset }

/-- MBC1 in its state of reset: `rom_bank` "default 1", the rest as `RESET` says (R45). -/
def Reset.mbc1State (r : Reset) : Mbc1 := { r.mbc1 with romBank := 1 }

/-- MBC2 in its state of reset: `rom_bank` "default 1", the rest as `RESET` says (R45). -/
def Reset.mbc2State (r : Reset) : Mbc2 := { r.mbc2 with romBank := 1 }

/-- The state of reset from `RESET` and the other parameters, with a cartridge in place (70_reset_and_hazards.md R380, step 3). -/
def State.resetFrom (r : Reset) (p : Params) (cart : Cart) : State :=
  { cpu := r.cpu, ints := r.ints, timer := r.timer, ppu := r.ppu, mem := r.mem, cart := cart,
    joypad := { buttons := Buttons.released, writes := [] }, params := p, cycles := 0, hostActs := [],
    handedFrame := none }

/-- The state of reset by the defaults of the parameters. -/
def State.resetWith (cart : Cart) : State := State.resetFrom Reset.defaults defaultParams cart

/-- The machine right after reset, with nothing loaded: a ROM-only image of 0x8000 bytes 0x00 (log 3; 95_test_vectors.md part 2). -/
def State.reset : State := State.resetWith { image := { len := blankImageLength, cells := [] }, mbc := .romOnly }

end Sys2Proof.Machine
end

