-- ==== Sys2Proof/Machine/Cartridge.lean ====
section
/-! DEFINITION. The cartridge and its bank controllers: `CartRead` and `CartWrite` (20_memory.md R70 to R88). -/

namespace Sys2Proof.Machine

/-- A byte of the image, or the model's fault when the offset is at or beyond its end (R88). `a` is the bus address read. -/
def romRead (img : Image) (a : Word) (offset : Nat) : Except Fault Byte :=
  if offset < img.len then .ok (img.cells.read offset) else .error (.cartOutOfRange a offset)

/-! ## MBC1 (R74 to R80) -/

/-- "selecting 0x00/0x20/0x40/0x60 is remapped to the next bank" (10_state.md R41, R78). -/
def mbc1Remap (bank : BitVec 7) : BitVec 7 :=
  if bank = 0x00 ∨ bank = 0x20 ∨ bank = 0x40 ∨ bank = 0x60 then bank + 1 else bank

/-- "set the low 5 bits of the ROM bank number" (R75). -/
def mbc1SetLow (m : Mbc1) (v : Byte) : Mbc1 :=
  { m with romBank := mbc1Remap ((m.romBank &&& 0x60) ||| (v &&& 0x1F).setWidth 7) }

/-- "either set the high 2 bits of the ROM bank number (ROM-banking mode) or select the RAM bank (RAM-banking mode)" (R76). -/
def mbc1SetHigh (m : Mbc1) (v : Byte) : Mbc1 :=
  if m.romBankingMode then { m with romBank := mbc1Remap ((m.romBank &&& (0x1F : BitVec 7)) ||| (((v &&& (0x03 : Byte)).setWidth 7) <<< 5)) }
  else { m with ramBank := v.setWidth 2 }

/-- Bit 0 of the value selects the banking mode, 0 the ROM-banking mode (R77). -/
def mbc1SetMode (m : Mbc1) (v : Byte) : Mbc1 := { m with romBankingMode := !v.getLsbD 0 }

/-- The offset into `CRAM` (R80). -/
def mbc1RamOffset (m : Mbc1) (a : Word) : Nat := (a.toNat - 0xA000) + m.ramBank.toNat * 0x2000

/-- A read from an MBC1 cartridge (R79, R80). An offset into `CRAM` at or beyond `CART_RAM_SIZE` is absent RAM (00_scope.md R7; log 40). -/
def mbc1Read (p : Params) (img : Image) (m : Mbc1) (a : Word) : Except Fault Byte :=
  if a.toNat < 0x4000 then romRead img a a.toNat
  else if a.toNat < 0x8000 then romRead img a ((a.toNat - 0x4000) + m.romBank.toNat * 0x4000)
  else if m.ramEnabled = true ∧ mbc1RamOffset m a < p.cartRamSize.mbc1 then .ok (m.cram.read (mbc1RamOffset m a))
  else .ok p.cartRamOffRead

/-- A write to an MBC1 cartridge (R74 to R77, R80). -/
def mbc1Write (p : Params) (m : Mbc1) (a : Word) (v : Byte) : Mbc1 :=
  if a.toNat < 0x2000 then { m with ramEnabled := decide (v &&& 0x0F = 0x0A) }
  else if a.toNat < 0x4000 then mbc1SetLow m v
  else if a.toNat < 0x6000 then mbc1SetHigh m v
  else if a.toNat < 0x8000 then mbc1SetMode m v
  else if m.ramEnabled = true ∧ mbc1RamOffset m a < p.cartRamSize.mbc1 then { m with cram := m.cram.write (mbc1RamOffset m a) v }
  else m

/-! ## MBC2 (R81 to R85) -/

/-- MBC2's RAM answers: enabled, in "a fixed 512-entry region in [0xA000,0xA200)", and not beyond `CART_RAM_SIZE` (R85; 00_scope.md R7; log 40). -/
abbrev mbc2RamAt (p : Params) (m : Mbc2) (a : Word) : Prop :=
  a.toNat < 0xA200 ∧ m.ramEnabled = true ∧ a.toNat - 0xA000 < p.cartRamSize.mbc2

/-- A read from an MBC2 cartridge (R84, R85). -/
def mbc2Read (p : Params) (img : Image) (m : Mbc2) (a : Word) : Except Fault Byte :=
  if a.toNat < 0x4000 then romRead img a a.toNat
  else if a.toNat < 0x8000 then romRead img a ((a.toNat - 0x4000) + m.romBank.toNat * 0x4000)
  else if mbc2RamAt p m a then .ok (m.cram.read (a.toNat - 0xA000) &&& 0x0F)
  else .ok p.cartRamOffRead

/-- The four-bit ROM bank a value selects; 0 selects 1 (R82). -/
def mbc2Bank (v : Byte) : BitVec 4 := if v.setWidth 4 = 0 then 1 else v.setWidth 4

/-- A write to an MBC2 cartridge (R81, R82, R83, R85). -/
def mbc2Write (p : Params) (m : Mbc2) (a : Word) (v : Byte) : Mbc2 :=
  if a.toNat < 0x2000 then { m with ramEnabled := decide (v &&& 0x0F = 0x0A) }
  else if a.toNat < 0x4000 then if a.getLsbD 8 then { m with romBank := mbc2Bank v } else m
  else if a.toNat < 0x8000 then m
  else if mbc2RamAt p m a then { m with cram := m.cram.write (a.toNat - 0xA000) (v &&& 0x0F) }
  else m

/-! ## Every kind (R70, R73) -/

/-- `CartRead(a)`, for `a` in 0x0000 to 0x7FFF and 0xA000 to 0xBFFF. -/
def cartRead (p : Params) (c : Cart) (a : Word) : Except Fault Byte :=
  match c.mbc with
  | .romOnly => if a.toNat < 0x8000 then romRead c.image a a.toNat else .ok p.cartRamOffRead
  | .mbc1 m => mbc1Read p c.image m a
  | .mbc2 m => mbc2Read p c.image m a

/-- `CartWrite(a, v)`, for the same addresses; "Write is a no-op" on a ROM-only cartridge (R73). -/
def cartWrite (p : Params) (c : Cart) (a : Word) (v : Byte) : Cart :=
  match c.mbc with
  | .romOnly => c
  | .mbc1 m => { c with mbc := .mbc1 (mbc1Write p m a v) }
  | .mbc2 m => { c with mbc := .mbc2 (mbc2Write p m a v) }

end Sys2Proof.Machine
end

