-- ==== Sys2Proof/Machine/Ops.lean ====
section
/-! DEFINITION. The named operations over memory and registers: the bus (20_memory.md R52 to R59), the stack (00_scope.md R12), requesting an
interrupt, taking it and returning from it (60_exceptions.md R303, R305, R308). -/

namespace Sys2Proof.Machine

/-! ## The bus -/

/-- The plain cells, "every address not matched by an earlier line" (R58) less work RAM and echo RAM: video RAM, OAM, 0xFF01 to 0xFF03,
0xFF08 to 0xFF0E, 0xFF10 to 0xFF3F, 0xFF4C to 0xFFFE. -/
def isPlain (a : Nat) : Bool :=
  decide (0x8000 ≤ a ∧ a < 0xA000) || decide (0xFE00 ≤ a ∧ a < 0xFEA0) || decide (0xFF01 ≤ a ∧ a ≤ 0xFF03)
    || decide (0xFF08 ≤ a ∧ a ≤ 0xFF0E) || decide (0xFF10 ≤ a ∧ a ≤ 0xFF3F) || decide (0xFF4C ≤ a ∧ a ≤ 0xFFFE)

/-- Work RAM and echo RAM, 0xC000 to 0xFDFF (R51, R54). -/
def isWork (a : Nat) : Bool := decide (0xC000 ≤ a ∧ a < 0xFE00)

/-- The pixel-unit register at an address of 0xFF40 to 0xFF4B (10_state.md R34). -/
def ppuRegister (p : PixelUnit) (a : Nat) : Byte :=
  match a with
  | 0xFF40 => p.lcdc
  | 0xFF41 => p.stat
  | 0xFF42 => p.scy
  | 0xFF43 => p.scx
  | 0xFF44 => p.ly
  | 0xFF45 => p.lyc
  | 0xFF46 => p.dma
  | 0xFF47 => p.bgp
  | 0xFF48 => p.obp0
  | 0xFF49 => p.obp1
  | 0xFF4A => p.wy
  | _ => p.wx

/-- The pixel unit after a byte is stored to its register at 0xFF40 to 0xFF4B; a write to `LY` sets it to 0 (R56), and the DMA register
stores the byte (R57; the copy is `dmaCopy`). -/
def setPpuRegister (p : PixelUnit) (a : Nat) (v : Byte) : PixelUnit :=
  match a with
  | 0xFF40 => { p with lcdc := v }
  | 0xFF41 => { p with stat := v }
  | 0xFF42 => { p with scy := v }
  | 0xFF43 => { p with scx := v }
  | 0xFF44 => { p with ly := 0 }
  | 0xFF45 => { p with lyc := v }
  | 0xFF46 => { p with dma := v }
  | 0xFF47 => { p with bgp := v }
  | 0xFF48 => { p with obp0 := v }
  | 0xFF49 => { p with obp1 := v }
  | 0xFF4A => { p with wy := v }
  | _ => { p with wx := v }

/-- `JoypadRead()` (60_exceptions.md R370). -/
def joypadRead (j : Joypad) : Byte := Config.joypadRead j.buttons j.writes

/-- `JoypadWrite(v)` (60_exceptions.md R370): the oracle may depend on the value from now on. -/
def joypadWrite (j : Joypad) (v : Byte) : Joypad := { j with writes := v :: j.writes }

/-- The read of an address from 0xFE00 up: the last lines of R52. -/
def highRead (s : State) (a : Nat) : Byte :=
  if 0xFEA0 ≤ a ∧ a ≤ 0xFEFF then s.params.restrictedRead
  else if a = 0xFF00 then joypadRead s.joypad
  else if a = 0xFF04 then s.timer.div
  else if a = 0xFF05 then s.timer.tima
  else if a = 0xFF06 then s.timer.tma
  else if a = 0xFF07 then s.timer.tmc
  else if a = 0xFF0F then s.ints.iflag
  else if 0xFF40 ≤ a ∧ a ≤ 0xFF4B then ppuRegister s.ppu a
  else if a = 0xFFFF then s.ints.ie
  else s.mem.read a

/-- `MemRead(a, 1)` (R52). No read changes any state. -/
def memRead (a : Word) (s : State) : Except Fault Byte :=
  if a.toNat < 0x8000 ∨ (0xA000 ≤ a.toNat ∧ a.toNat < 0xC000) then cartRead s.params s.cart a
  else if a.toNat < 0xFE00 then .ok (s.mem.read a.toNat)
  else .ok (highRead s a.toNat)

/-- `M[a] <- v`. -/
def setCell (a : Nat) (v : Byte) (s : State) : State := { s with mem := s.mem.write a v }

/-- A write to 0xC000 to 0xFDFF: the cell and its mirror; 0xDE00 to 0xDFFF has none (R54). -/
def workWrite (a : Nat) (v : Byte) (s : State) : State :=
  if a < 0xDE00 then setCell (a + 0x2000) v (setCell a v s)
  else if a < 0xE000 then setCell a v s
  else setCell (a - 0x2000) v (setCell a v s)

/-- The copy loop of R57 from its step `i` on, `n` steps left: `b <- MemRead(((v << 8) + i) mod 65536, 1); MemWrite(0xFE00 + i, 1, b)`.
The destination is OAM, plain cells, so the write is `M[0xFE00 + i] <- b`. -/
def dmaCopy (src : Byte) (n i : Nat) (s : State) : Except Fault State :=
  match n with
  | 0 => .ok s
  | n + 1 => do
    let b ← memRead (BitVec.ofNat 16 (src.toNat * 256 + i)) s
    dmaCopy src n (i + 1) (setCell (0xFE00 + i) b s)

/-- The DMA trigger: "`DMA <- v`" and then "a synchronous 160-byte copy from (value<<8) in source memory to the sprite-attribute region" (R57). -/
def dmaWrite (v : Byte) (s : State) : Except Fault State :=
  dmaCopy v 160 0 { s with ppu := setPpuRegister s.ppu 0xFF46 v }

/-- The write to an address from 0xFE00 up, the DMA register apart: the last lines of R53. -/
def highWrite (a : Nat) (v : Byte) (s : State) : State :=
  if 0xFEA0 ≤ a ∧ a ≤ 0xFEFF then s
  else if a = 0xFF00 then { s with joypad := joypadWrite s.joypad v }
  else if a = 0xFF04 then { s with timer := { s.timer with div := 0, divAcc := 0 } }
  else if a = 0xFF05 then { s with timer := { s.timer with tima := v } }
  else if a = 0xFF06 then { s with timer := { s.timer with tma := v } }
  else if a = 0xFF07 then { s with timer := { s.timer with tmc := v } }
  else if a = 0xFF0F then { s with ints := { s.ints with iflag := v } }
  else if 0xFF40 ≤ a ∧ a ≤ 0xFF4B then { s with ppu := setPpuRegister s.ppu a v }
  else if a = 0xFFFF then { s with ints := { s.ints with ie := v } }
  else setCell a v s

/-- `MemWrite(a, 1, v)` (R53). Only a DMA trigger can end in a fault, by a source byte beyond the image (R57, R88). -/
def memWrite (a : Word) (v : Byte) (s : State) : Except Fault State :=
  if a.toNat < 0x8000 ∨ (0xA000 ≤ a.toNat ∧ a.toNat < 0xC000) then .ok { s with cart := cartWrite s.params s.cart a v }
  else if a.toNat < 0xC000 then .ok (setCell a.toNat v s)
  else if a.toNat < 0xFE00 then .ok (workWrite a.toNat v s)
  else if a.toNat = 0xFF46 then dmaWrite v s
  else .ok (highWrite a.toNat v s)

/-! ## The stack (00_scope.md R12) -/

/-- `Push16(w)`: "writes the high byte at SP-1 and the low byte at SP-2, then decrements SP by 2". -/
def push16 (w : Word) (s : State) : Except Fault State := do
  let s1 ← memWrite (s.cpu.sp - 1) (hiByte w) s
  let s2 ← memWrite (s.cpu.sp - 2) (loByte w) s1
  .ok { s2 with cpu := { s2.cpu with sp := s2.cpu.sp - 2 } }

/-- `Pop16()`: "reads low byte at SP, high byte at SP+1, then increments SP by 2". -/
def pop16 (s : State) : Except Fault (Word × State) := do
  let lo ← memRead s.cpu.sp s
  let hi ← memRead (s.cpu.sp + 1) s
  .ok (cat hi lo, { s with cpu := { s.cpu with sp := s.cpu.sp + 2 } })

/-! ## Interrupts -/

/-- `RequestInterrupt(i)`: `IF <- IF OR (1 << i)` (60_exceptions.md R303). -/
def requestInterrupt (i : Nat) (s : State) : State :=
  { s with ints := { s.ints with iflag := s.ints.iflag ||| BitVec.ofNat 8 (2 ^ i) } }

/-- The vector of interrupt i: 0x0040 + 8 * i (60_exceptions.md R301, R305). -/
def interruptVector (i : Nat) : Word := BitVec.ofNat 16 (0x0040 + 8 * i)

/-- The state of R305 before the push: `IF` bit i, `IME`, the latch and `Halted` cleared; `Stopped` unchanged. -/
def acknowledge (i : Nat) (s : State) : State :=
  { s with
    ints := { s.ints with iflag := s.ints.iflag &&& (0xFF ^^^ BitVec.ofNat 8 (2 ^ i)), ime := false }
    cpu := { s.cpu with imePending := .none, halted := false } }

/-- TAKING AN INTERRUPT, the machine's only trap entry: dispatch of interrupt i (60_exceptions.md R305). `PC` is the only saved state, on the stack. -/
def takeInterrupt (i : Nat) (s : State) : Except Fault State := do
  let t ← push16 s.cpu.pc (acknowledge i s)
  .ok { t with cpu := { t.cpu with pc := interruptVector i } }

/-- THE RETURN from an interrupt handler: `PC <- Pop16(); IME <- 1`, at once and not through the latch (45_control.md R269, 60_exceptions.md R308). -/
def returnFromInterrupt (s : State) : Except Fault State := do
  let (w, t) ← pop16 s
  .ok { t with cpu := { t.cpu with pc := w }, ints := { t.ints with ime := true } }

/-! ## The end of an instruction -/

/-- `CYC[op]` (30_encoding.md R113): the figure of a base opcode, the taken one where the two differ. -/
def cyc (op : Byte) (s : State) : Nat := (s.params.cyc.getD op.toNat noFigure).taken

/-- `CYC[op]`, the not-taken figure. -/
def cycNotTaken (op : Byte) (s : State) : Nat := (s.params.cyc.getD op.toNat noFigure).notTaken

/-- `CYC_CB[op2]` (30_encoding.md R114): the figure of an extended opcode. -/
def cycCb (op2 : Byte) (s : State) : Nat := s.params.cycCb.getD op2.toNat 0

/-- An operation's outcome as a meaning's, with the cycle count the instruction reports (`cycles <- n`, 00_scope.md R13). -/
def finish (n : Nat) (r : Except Fault State) : Out :=
  match r with
  | .ok t => .next { t with cycles := n }
  | .error f => .fault f

/-- The same for a conditional instruction: the taken or the not-taken figure, as the operation reports (30_encoding.md R101, R113). -/
def finishIf (taken notTaken : Nat) (r : Except Fault (Bool × State)) : Out :=
  match r with
  | .ok (true, t) => finish taken (.ok t)
  | .ok (false, t) => finish notTaken (.ok t)
  | .error f => .fault f

end Sys2Proof.Machine
end

