-- ==== Sys2Proof/Machine/Operands.lean ====
section
/-! DEFINITION. Operand forms: registers, pairs, `r[i]`, `rp[i]`, `rp2[i]`, conditions (00_scope.md R10; 10_state.md R20 to R22;
30_encoding.md R103 to R105). -/

namespace Sys2Proof.Machine

/-- The value of a register. -/
def getReg (r : Reg8) (s : State) : Byte :=
  match r with
  | .b => s.cpu.b
  | .c => s.cpu.c
  | .d => s.cpu.d
  | .e => s.cpu.e
  | .h => s.cpu.h
  | .l => s.cpu.l
  | .a => s.cpu.a

/-- `r <- v`. -/
def setReg (r : Reg8) (v : Byte) (s : State) : State :=
  match r with
  | .b => { s with cpu := { s.cpu with b := v } }
  | .c => { s with cpu := { s.cpu with c := v } }
  | .d => { s with cpu := { s.cpu with d := v } }
  | .e => { s with cpu := { s.cpu with e := v } }
  | .h => { s with cpu := { s.cpu with h := v } }
  | .l => { s with cpu := { s.cpu with l := v } }
  | .a => { s with cpu := { s.cpu with a := v } }

/-- The pair `HL`, `H ++ L` (R21). -/
def getHL (s : State) : Word := cat s.cpu.h s.cpu.l

/-- `HL <- w` (R10). -/
def setHL (w : Word) (s : State) : State := { s with cpu := { s.cpu with h := hiByte w, l := loByte w } }

/-- `PC <- target` (R13). -/
def setPc (w : Word) (s : State) : State := { s with cpu := { s.cpu with pc := w } }

/-- `SP <- w`. -/
def setSp (w : Word) (s : State) : State := { s with cpu := { s.cpu with sp := w } }

/-- The value of `rp[i]`, "high byte first" (R21, R104). -/
def getPair (p : Pair) (s : State) : Word :=
  match p with
  | .bc => cat s.cpu.b s.cpu.c
  | .de => cat s.cpu.d s.cpu.e
  | .hl => getHL s
  | .sp => s.cpu.sp

/-- `rp[i] <- w` (R10, R104). -/
def setPair (p : Pair) (w : Word) (s : State) : State :=
  match p with
  | .bc => { s with cpu := { s.cpu with b := hiByte w, c := loByte w } }
  | .de => { s with cpu := { s.cpu with d := hiByte w, e := loByte w } }
  | .hl => setHL w s
  | .sp => setSp w s

/-- `F` read as a byte: bits 3 to 0 are hard-wired zero (R20, R22; log 18). -/
def getF (s : State) : Byte := s.cpu.f &&& 0xF0

/-- `F` written as a byte: bits 3 to 0 stay zero (R10, R22; log 18). -/
def setF (v : Byte) (s : State) : State := { s with cpu := { s.cpu with f := v &&& 0xF0 } }

/-- The value of `rp2[i]` (R21, R104). -/
def getStackPair (p : StackPair) (s : State) : Word :=
  match p with
  | .bc => getPair .bc s
  | .de => getPair .de s
  | .hl => getPair .hl s
  | .af => cat s.cpu.a (getF s)

/-- `rp2[i] <- w`; `AF <- w` sets `F <- w[7:0] AND 0xF0` (R10, R104). -/
def setStackPair (p : StackPair) (w : Word) (s : State) : State :=
  match p with
  | .bc => setPair .bc w s
  | .de => setPair .de w s
  | .hl => setPair .hl w s
  | .af => setF (loByte w) (setReg .a (hiByte w) s)

/-! ## The operand r[i] -/

/-- Reading `r[i]`: a register, or `MemRead(HL, 1)` (R103). -/
def readLoc (v : Loc8) (s : State) : Except Fault Byte :=
  match v with
  | .reg r => .ok (getReg r s)
  | .atHL => memRead (getHL s) s

/-- `r[i] <- x`: a register, or `MemWrite(HL, 1, x)` (R103). -/
def writeLoc (v : Loc8) (x : Byte) (s : State) : Except Fault State :=
  match v with
  | .reg r => .ok (setReg r x s)
  | .atHL => memWrite (getHL s) x s

/-! ## Flags and conditions -/

/-- `Zf = F[7]`. -/
def zf (s : State) : Bool := bit s.cpu.f 7

/-- `Nf = F[6]`. -/
def nf (s : State) : Bool := bit s.cpu.f 6

/-- `Hf = F[5]`. -/
def hf (s : State) : Bool := bit s.cpu.f 5

/-- `Cf = F[4]`. -/
def cf (s : State) : Bool := bit s.cpu.f 4

/-- The byte `F` with four given flags (R22). -/
def packFlags (z n h c : Bool) : Byte :=
  BitVec.ofNat 8 (z.toNat * 0x80 + n.toNat * 0x40 + h.toNat * 0x20 + c.toNat * 0x10)

/-- `Zf <- z; Nf <- n; Hf <- h; Cf <- c`. An instruction that leaves a flag passes the flag's old value. -/
def setFlags (z n h c : Bool) (s : State) : State := setF (packFlags z n h c) s

/-- `cond(cc)` (R105). -/
def cond (cc : Cond) (s : State) : Bool :=
  match cc with
  | .nz => !zf s
  | .z => zf s
  | .nc => !cf s
  | .c => cf s

/-- A three-bit field as a number (R107). -/
def threeVal (t : Three) : Nat :=
  match t with
  | .n0 => 0
  | .n1 => 1
  | .n2 => 2
  | .n3 => 3
  | .n4 => 4
  | .n5 => 5
  | .n6 => 6
  | .n7 => 7

/-- The opcode byte of an undefined row (R118). -/
def undefByte (u : Undef) : Byte :=
  match u with
  | .d3 => 0xD3
  | .db => 0xDB
  | .dd => 0xDD
  | .e3 => 0xE3
  | .e4 => 0xE4
  | .eb => 0xEB
  | .ec => 0xEC
  | .ed => 0xED
  | .f4 => 0xF4
  | .fc => 0xFC
  | .fd => 0xFD

end Sys2Proof.Machine
end

