-- ==== Sys2Proof/Machine/Render.lean ====
section
/-! DEFINITION. The pixel unit's rendering of a scanline (60_exceptions.md R340 to R346; 10_state.md R35, R37). Its bus reads touch only video RAM
and OAM, plain cells, so they are reads of `M` (R340; log 19). -/

namespace Sys2Proof.Machine

/-- A bus read of the pixel unit. -/
def ppuRead (s : State) (a : Nat) : Byte := s.mem.read a

/-- Colour index c of a palette: the shade `P[2c+1:2c]` (10_state.md R37). -/
def paletteShade (p : Byte) (c : Nat) : Shade := BitVec.ofNat 2 (field p (2 * c) 2)

/-- `hi[bit] * 2 + lo[bit]`. -/
def colourIndex (lo hi : Byte) (b : Nat) : Nat := (bit hi b).toNat * 2 + (bit lo b).toNat

/-- `TileAddr(idx)`: LCDC bit 4 selects base and signedness (R343). -/
def tileAddr (lcdc : Byte) (idx : Byte) : Nat :=
  if bit lcdc 4 then 0x8000 + idx.toNat * 16 else (0x9000 + signed8 idx * 16).toNat

/-- The window is active on a line: `LCDC[5] = 1 and WY <= line` (R341). -/
def windowActive (p : PixelUnit) (line : Nat) : Bool := bit p.lcdc 5 && decide (p.wy.toNat ≤ line)

/-- The tile map's base address (R341). -/
def mapBase (p : PixelUnit) (line : Nat) : Nat :=
  if bit p.lcdc (if windowActive p line then 6 else 3) then 0x9C00 else 0x9800

/-- `ypos` (R341). -/
def mapY (p : PixelUnit) (line : Nat) : Nat :=
  if windowActive p line then line - p.wy.toNat else (p.scy.toNat + line) % 256

/-- `xpos` (R342). -/
def mapX (p : PixelUnit) (line x : Nat) : Nat :=
  if windowActive p line = true ∧ p.wx.toNat ≤ x + 7 then x + 7 - p.wx.toNat else (x + p.scx.toNat) % 256

/-- A background or window pixel (R342). -/
def backgroundPixel (s : State) (line x : Nat) : Shade :=
  let y := mapY s.ppu line
  let xpos := mapX s.ppu line x
  let idx := ppuRead s (mapBase s.ppu line + y / 8 * 32 + xpos / 8)
  let row := tileAddr s.ppu.lcdc idx + y % 8 * 2
  paletteShade s.ppu.bgp (colourIndex (ppuRead s row) (ppuRead s (row + 1)) (7 - xpos % 8))

/-- The background pass: the line's 160 pixels, or shade 0 where `LCDC[0] = 0` (R340, R342). -/
def backgroundRow (s : State) (line : Nat) : List Shade :=
  if bit s.ppu.lcdc 0 then (List.range 160).map (backgroundPixel s line) else List.replicate 160 0

/-- Sprite height: "8 or 16 px tall per LCDC bit 2" (10_state.md R35). -/
def spriteHeight (p : PixelUnit) : Nat := if bit p.lcdc 2 then 16 else 8

/-- The row of the sprite's tile data shown on a line `dy` below its top; attribute bit 6 flips it vertically (R346). -/
def spriteRow (p : PixelUnit) (attr : Byte) (dy : Nat) : Nat := if bit attr 6 then spriteHeight p - 1 - dy else dy

/-- One of a sprite's eight pixels onto a row: colour index 0 is transparent, attribute bit 5 flips horizontally, bit 4 selects the palette (R346). -/
def spritePixel (p : PixelUnit) (attr lo hi : Byte) (x0 : Int) (row : List Shade) (px : Nat) : List Shade :=
  let c := colourIndex lo hi (if bit attr 5 then px else 7 - px)
  let x := x0 + px
  if c ≠ 0 ∧ 0 ≤ x ∧ x < 160 then row.set x.toNat (paletteShade (if bit attr 4 then p.obp1 else p.obp0) c) else row

/-- OAM entry i onto the row of a line (R346): bytes Y+16, X+8, tile, attributes. -/
def spriteOnRow (s : State) (line : Nat) (row : List Shade) (i : Nat) : List Shade :=
  let o := 0xFE00 + 4 * i
  let y0 : Int := (ppuRead s o).toNat - 16
  let x0 : Int := (ppuRead s (o + 1)).toNat - 8
  let attr := ppuRead s (o + 3)
  if y0 ≤ line ∧ (line : Int) < y0 + spriteHeight s.ppu then
    let a := 0x8000 + (ppuRead s (o + 2)).toNat * 16 + spriteRow s.ppu attr ((line : Int) - y0).toNat * 2
    (List.range 8).foldl (spritePixel s.ppu attr (ppuRead s a) (ppuRead s (a + 1)) x0) row
  else row

/-- The sprite pass, where `LCDC[1] = 1`: 40 entries in ascending order, a later one over an earlier one (R340, R346). -/
def spritesOnRow (s : State) (line : Nat) (row : List Shade) : List Shade :=
  if bit s.ppu.lcdc 1 then (List.range 40).foldl (spriteOnRow s line) row else row

/-- `RenderScanline(line)`: row `line` of FB; for a line outside 0 to 143 nothing (R340). -/
def renderScanline (line : Nat) (s : State) : State :=
  if line < 144 then
    { s with ppu := { s.ppu with fb := s.ppu.fb.set line (spritesOnRow s line (backgroundRow s line)) } }
  else s

end Sys2Proof.Machine
end

