-- ==== Sys2Proof/Machine/Scanline.lean ====
section
/-! DEFINITION. The pixel unit's scanline state machine: `PixelUnit.execute(cycles)` (60_exceptions.md R330 to R335). -/

namespace Sys2Proof.Machine

/-- "00 HBlank,01 VBlank,10 OAMSearch,11 PixelTransfer" (R335). -/
def modeCode (m : Mode) : Byte :=
  match m with
  | .hBlank => 0
  | .vBlank => 1
  | .oamSearch => 2
  | .pixelTransfer => 3

/-- Cycles after which a mode is left: 80, 172, 204, 456 (R330). -/
def modeCycles (m : Mode) : Nat :=
  match m with
  | .oamSearch => 80
  | .pixelTransfer => 172
  | .hBlank => 204
  | .vBlank => 456

/-- The STAT source of a mode entry: bit 3, 4 or 5; `PixelTransfer` has none (R335). -/
def modeSource (stat : Byte) (m : Mode) : Bool :=
  match m with
  | .hBlank => bit stat 3
  | .vBlank => bit stat 4
  | .oamSearch => bit stat 5
  | .pixelTransfer => false

/-- The LY = LYC source: `STAT[6] = 1 and LY = LYC` (R335). -/
def coincidence (p : PixelUnit) : Bool := bit p.stat 6 && decide (p.ly = p.lyc)

/-- `mode <- m; STAT[1:0] <- code(m)` (R335). -/
def setMode (m : Mode) (s : State) : State :=
  { s with ppu := { s.ppu with mode := m, stat := (s.ppu.stat &&& 0xFC) ||| modeCode m } }

/-- `EnterMode(m)`: the mode, its code in STAT, and the STAT interrupt sources, tested on this transition only (R335). -/
def enterMode (m : Mode) (s : State) : State :=
  let t := setMode m s
  if modeSource t.ppu.stat m || coincidence t.ppu then requestInterrupt 1 t else t

/-- `ppu_acc <- n`. -/
def setAcc (n : Nat) (s : State) : State := { s with ppu := { s.ppu with acc := n } }

/-- `LY <- v`. -/
def setLy (v : Byte) (s : State) : State := { s with ppu := { s.ppu with ly := v } }

/-- "hand FB to the FrameSink" (R312, R333). -/
def handFrame (s : State) : State := { s with handedFrame := some s.ppu.fb }

/-- The end of `PixelTransfer` (R332). -/
def endPixelTransfer (s : State) : State := enterMode .hBlank (renderScanline s.ppu.ly.toNat s)

/-- The end of a visible line (R333). -/
def endHBlank (s : State) : State :=
  let t := setLy (s.ppu.ly + 1) s
  if t.ppu.ly = 144 then handFrame (requestInterrupt 0 (enterMode .vBlank t)) else enterMode .oamSearch t

/-- The end of a VBlank line (R334). -/
def endVBlankLine (s : State) : State :=
  if s.ppu.ly.toNat + 1 > 153 then enterMode .oamSearch (setLy 0 s) else setLy (s.ppu.ly + 1) s

/-- What happens when a mode's cycles are used up (R331 to R334). -/
def endMode (s : State) : State :=
  match s.ppu.mode with
  | .oamSearch => enterMode .pixelTransfer s
  | .pixelTransfer => endPixelTransfer s
  | .hBlank => endHBlank s
  | .vBlank => endVBlankLine s

/-- `PixelUnit.execute(cycles)`: at most one transition, the remainder carried (R330). -/
def ppuExecute (cycles : Nat) (s : State) : State :=
  let acc := s.ppu.acc + cycles
  let limit := modeCycles s.ppu.mode
  if acc ≥ limit then endMode (setAcc (acc - limit) s) else setAcc acc s

end Sys2Proof.Machine
end

