-- ==== Sys2Proof/Machine/Timers.lean ====
section
/-! DEFINITION. The timer: `Timer.update(cycles)` (60_exceptions.md R320 to R323). The loops of R321 and R322 subtract 256, or the divisor, while
they can, so they run `acc / 256`, or `acc / d`, times and leave the remainder (log 21). -/

namespace Sys2Proof.Machine

/-- "DIV increments once per 256 accumulated cycles" (R321). -/
def divUpdate (cycles : Nat) (t : Timer) : Timer :=
  { t with div := t.div + BitVec.ofNat 8 ((t.divAcc + cycles) / 256), divAcc := (t.divAcc + cycles) % 256 }

/-- The divisor `TMC[1:0]` selects (R322). -/
def timerDivisor (tmc : Byte) : Nat :=
  match field tmc 0 2 with
  | 0 => 1024
  | 1 => 16
  | 2 => 64
  | _ => 256

/-- `TimaTick()`: "on TIMA overflow from 0xFF, reload TIMA from TMA and raise the Timer interrupt flag" (R323). -/
def timaTick (s : State) : State :=
  if s.timer.tima = 0xFF then requestInterrupt 2 { s with timer := { s.timer with tima := s.timer.tma } }
  else { s with timer := { s.timer with tima := s.timer.tima + 1 } }

/-- `n` ticks. -/
def timaTicks (n : Nat) (s : State) : State :=
  match n with
  | 0 => s
  | n + 1 => timaTicks n (timaTick s)

/-- The counter (R322): nothing while `TMC[2] = 0`. -/
def counterUpdate (cycles : Nat) (s : State) : State :=
  if bit s.timer.tmc 2 then
    let d := timerDivisor s.timer.tmc
    let acc := s.timer.timaAcc + cycles
    timaTicks (acc / d) { s with timer := { s.timer with timaAcc := acc % d } }
  else s

/-- `Timer.update(cycles)`: R321 and then R322 (R320). -/
def timerUpdate (cycles : Nat) (s : State) : State :=
  counterUpdate cycles { s with timer := divUpdate cycles s.timer }

end Sys2Proof.Machine
end

