-- ==== Sys2Proof/Machine/Interrupts.lean ====
section
/-! DEFINITION. The interrupt controller's `resolve()` (60_exceptions.md R301, R302, R304 to R307). Taking an interrupt is `takeInterrupt` in Ops.lean. -/

namespace Sys2Proof.Machine

/-- `IF AND IE AND 0x1F`: the interrupts that are pending and enabled (R302, R304). -/
def pending (s : State) : Byte := s.ints.iflag &&& s.ints.ie &&& 0x1F

/-- The lowest set bit of 0 to 4: "lower index is higher priority" (R304, R306). -/
def firstPending (p : Byte) : Option Nat :=
  if bit p 0 then some 0
  else if bit p 1 then some 1
  else if bit p 2 then some 2
  else if bit p 3 then some 3
  else if bit p 4 then some 4
  else none

/-- The halt wake: `Halted <- 0` and nothing else (R307). -/
def wake (s : State) : State := { s with cpu := { s.cpu with halted := false } }

/-- The cycles a dispatch consumes, `CYC_INT` (R305): the timer and the pixel unit advance by them, and with 0, the default, they do not (D5; log 6). -/
def consume (n : Nat) (s : State) : State := if n = 0 then s else ppuExecute n (timerUpdate n s)

/-- One dispatch (R305) with the cycles it consumes. -/
def dispatch (i : Nat) (s : State) : Except Fault State := do
  let t ← takeInterrupt i s
  .ok (consume s.params.cycInt t)

/-- `resolve()` (R304): with `IME = 0` only the halt wake; otherwise at most one dispatch. -/
def resolve (s : State) : Except Fault State :=
  if s.ints.ime then
    match firstPending (pending s) with
    | some i => dispatch i s
    | none => .ok s
  else if s.cpu.halted = true ∧ pending s ≠ 0 then .ok (wake s)
  else .ok s

end Sys2Proof.Machine
end

