-- ==== Sys2Proof/Machine/Cycle.lean ====
section
/-! DEFINITION. The parts of the machine step (60_exceptions.md R310) around `exec`: the host's acts (R312), the start of `execute()` (30_encoding.md
R101 steps 1 to 3), the fetch (00_scope.md R12) and the devices; and the placing of an instruction where the next step fetches. -/

namespace Sys2Proof.Machine

/-! ## Before the fetch -/

/-- One act of the host (60_exceptions.md R312). -/
def hostAct (s : State) (act : HostAct) : State :=
  match act with
  | .setButtons b => { s with joypad := { s.joypad with buttons := b } }
  | .joypadInterrupt => requestInterrupt 4 s

/-- The host acts between two steps: what the schedule holds for this step, in order (R311, R312; log 12). -/
def hostPhase (s : State) : State :=
  match s.hostActs with
  | [] => s
  | acts :: rest => acts.foldl hostAct { s with hostActs := rest }

/-- Step 1 of `execute()`: the latched value into `IME`, the latch to `None` (R101, 10_state.md R29). -/
def latchIme (s : State) : State :=
  match s.cpu.imePending with
  | .none => s
  | .enable => { s with ints := { s.ints with ime := true }, cpu := { s.cpu with imePending := .none } }
  | .disable => { s with ints := { s.ints with ime := false }, cpu := { s.cpu with imePending := .none } }

/-- Step 2 of `execute()`: `Halted = 1` or `Stopped = 1` (R101). -/
def isIdle (s : State) : Bool := s.cpu.halted || s.cpu.stopped

/-- An idle `execute()`: nothing but the count `CYC_IDLE` (R101). -/
def idle (s : State) : State := { s with cycles := s.params.cycIdle }

/-! ## The fetch -/

/-- An operand byte, where the opcode byte calls for it. -/
def operandByte (wanted : Bool) (a : Word) (s : State) : Except Fault Byte := if wanted then memRead a s else .ok 0

/-- The fetches of an instruction: its opcode byte, then as many bytes as the opcode byte calls for, each through the bus at
`PC`, `PC + 1`, `PC + 2` modulo 65536; `PC` ends past them (R101, R112; 00_scope.md R12; log 37). -/
def fetch (s : State) : Except Fault (Instr × State) := do
  let op ← memRead s.cpu.pc s
  let b1 ← operandByte (decide (2 ≤ lengthOf s.params.prefixByte op)) (s.cpu.pc + 1) s
  let b2 ← operandByte (decide (3 ≤ lengthOf s.params.prefixByte op)) (s.cpu.pc + 2) s
  .ok (decodeInstr s.params.prefixByte op b1 b2, setPc (s.cpu.pc + BitVec.ofNat 16 (lengthOf s.params.prefixByte op)) s)

/-! ## After execute() -/

/-- Parts 2 to 4 of the machine step: the timer and the pixel unit by the count `execute()` reported, then `resolve()` (R310). -/
def devices (s : State) : Except Fault State := resolve (ppuExecute s.cycles (timerUpdate s.cycles s))

/-- The devices' outcome as a step's. -/
def devicesOut (s : State) : Out :=
  match devices s with
  | .ok t => .next t
  | .error f => .fault f

/-- The rest of the machine step after an instruction: a fault or a refusal has no successor. -/
def afterExec (o : Out) : Out :=
  match o with
  | .next s => devicesOut s
  | .fault f => .fault f
  | .refused r => .refused r

/-! ## Placing an instruction (log 17) -/

/-- The image offset a ROM address reads (20_memory.md R73, R79, R84). -/
def romOffset (c : Cart) (a : Nat) : Nat :=
  if a < 0x4000 then a
  else
    match c.mbc with
    | .romOnly => a
    | .mbc1 m => (a - 0x4000) + m.romBank.toNat * 0x4000
    | .mbc2 m => (a - 0x4000) + m.romBank.toNat * 0x4000

/-- Addresses that hold a byte put there: the image, plain cells, work RAM and echo RAM. -/
def placeable (s : State) (a : Word) : Bool :=
  (decide (a.toNat < 0x8000) && decide (romOffset s.cart a.toNat < s.cart.image.len)) || isPlain a.toNat || isWork a.toNat

/-- A byte put at such an address: into the image, or into `M` as a store would. -/
def placeByte (a : Word) (v : Byte) (s : State) : State :=
  if a.toNat < 0x8000 then
    { s with cart := { s.cart with image := { s.cart.image with cells := s.cart.image.cells.write (romOffset s.cart a.toNat) v } } }
  else if isWork a.toNat then workWrite a.toNat v s
  else setCell a.toNat v s

/-- Where the bytes go: at `PC` if all three addresses hold a byte, else at 0xC000 in work RAM. -/
def placeAddr (s : State) : Word :=
  if placeable s s.cpu.pc && placeable s (s.cpu.pc + 1) && placeable s (s.cpu.pc + 2) then s.cpu.pc else 0xC000

/-- Bytes put at an address and those after it. -/
def placeBytes (bytes : List Byte) (a : Word) (s : State) : State :=
  match bytes with
  | [] => s
  | v :: rest => placeBytes rest (a + 1) (placeByte a v s)

/-- The state whose next step fetches the bytes: they stand at `PC`, `PREFIX` is the table's, and the CPU is neither halted nor stopped. -/
def placeInstr (bytes : List Byte) (s : State) : State :=
  placeBytes bytes (placeAddr s) { s with
    cpu := { s.cpu with pc := placeAddr s, halted := false, stopped := false }
    params := { s.params with prefixByte := prefixByte } }

end Sys2Proof.Machine
end

