-- ==== Sys2Proof/Machine/Flags.lean ====
section
/-! DEFINITION. The flag contracts of 42_alu8.md R180 and every flag and result computation of the instruction set, on unbounded numbers
narrowed at the end (00_scope.md R9; 42_alu8.md R195). -/

namespace Sys2Proof.Machine

/-- A byte result with the four flags an operation gives. -/
structure Alu where
  val : Byte
  z : Bool
  n : Bool
  h : Bool
  c : Bool
deriving DecidableEq, Repr

/-- `a + b + cin`: H a carry out of bit 3, C a result above 0xFF, N = 0 (R180 b; R181, R182). -/
def addByte (a b : Byte) (cin : Bool) : Alu :=
  let s := a.toNat + b.toNat + cin.toNat
  let val := BitVec.ofNat 8 s
  { val := val, z := decide (val = 0), n := false, h := decide (a.toNat % 16 + b.toNat % 16 + cin.toNat > 0xF), c := decide (s > 0xFF) }

/-- `a - b - cin`: H a borrow into bit 3, C a borrow into bit 7, N = 1 (R180 c; R183, R184, R188). -/
def subByte (a b : Byte) (cin : Bool) : Alu :=
  let val := a - b - BitVec.ofNat 8 cin.toNat
  { val := val, z := decide (val = 0), n := true, h := decide (a.toNat % 16 < b.toNat % 16 + cin.toNat),
    c := decide (a.toNat < b.toNat + cin.toNat) }

/-- A logic result: Z derived, N and C forced 0, H as given (R185 to R187). -/
def logicByte (val : Byte) (h : Bool) : Alu := { val := val, z := decide (val = 0), n := false, h := h, c := false }

/-- The eight operations of `alu[a]` on A, the operand and the old carry (R106, R181 to R188). `CP` has `SUB`'s flags; its value is dropped. -/
def aluCompute (op : AluOp) (a v : Byte) (carry : Bool) : Alu :=
  match op with
  | .add => addByte a v false
  | .adc => addByte a v carry
  | .sub => subByte a v false
  | .sbc => subByte a v carry
  | .and => logicByte (a &&& v) true
  | .xor => logicByte (a ^^^ v) false
  | .or => logicByte (a ||| v) false
  | .cp => subByte a v false

/-- Whether `alu[a]` writes A: every operation but `CP` (R188). -/
def aluWrites (op : AluOp) : Bool :=
  match op with
  | .cp => false
  | .add | .adc | .sub | .sbc | .and | .xor | .or => true

/-- `INC`: Z, N, H from the result, C kept (R189). -/
def incByte (v : Byte) (carry : Bool) : Alu :=
  let val := v + 1
  { val := val, z := decide (val = 0), n := false, h := decide (v.toNat % 16 = 0xF), c := carry }

/-- `DEC`: Z, N, H from the result, C kept (R190). -/
def decByte (v : Byte) (carry : Bool) : Alu :=
  let val := v - 1
  { val := val, z := decide (val = 0), n := true, h := decide (v.toNat % 16 = 0), c := carry }

/-- `DAA`'s 0x60 correction applies after an addition: "C or (on addition) value > 0x99" (R191). -/
def daaHigh (a : Byte) (n c : Bool) : Bool := c || (!n && decide (a.toNat > 0x99))

/-- `DAA`'s 0x06 correction: "H or (on addition) low nibble > 0x09" (R191). -/
def daaLow (a : Byte) (n h : Bool) : Bool := h || (!n && decide (a.toNat % 16 > 0x9))

/-- The amount `DAA` adds or subtracts (R191). -/
def daaAdjust (a : Byte) (n h c : Bool) : Byte :=
  BitVec.ofNat 8 ((daaHigh a n c).toNat * 0x60 + (daaLow a n h).toNat * 0x06)

/-- `DAA` (R191): N kept, H forced 0, C set by the 0x60 correction of an addition, otherwise kept. -/
def daaCompute (a : Byte) (n h c : Bool) : Alu :=
  let adj := daaAdjust a n h c
  let val := if n then a - adj else a + adj
  { val := val, z := decide (val = 0), n := n, h := false, c := daaHigh a n c }

/-- A 16-bit sum with its carries out of bits 11 and 15. -/
structure Sum16 where
  val : Word
  h : Bool
  c : Bool
deriving DecidableEq, Repr

/-- The 16-bit addition: H a carry out of bit 11, C out of bit 15 (43_alu16.md R220). -/
def addWord (x w : Word) : Sum16 :=
  { val := BitVec.ofNat 16 (x.toNat + w.toNat), h := decide (x.toNat % 0x1000 + w.toNat % 0x1000 > 0x0FFF),
    c := decide (x.toNat + w.toNat > 0xFFFF) }

/-- `AddSP(sp, e)` with either value of `ADDSP_FLAGS` (43_alu16.md R223). -/
def addSp (mode : AddSpFlags) (sp : Word) (e : Byte) : Sum16 :=
  match mode with
  | .bits11and15 => addWord sp (sext16 e)
  | .bits3and7 =>
    { val := BitVec.ofNat 16 (sp.toNat + (sext16 e).toNat), h := decide (sp.toNat % 16 + e.toNat % 16 > 0xF),
      c := decide (sp.toNat % 256 + e.toNat > 0xFF) }

/-- A shift result: Z derived, N and H forced 0, C the bit shifted out (44_rotate_shift_bit.md R235 to R242). -/
def shiftResult (val : Byte) (c : Bool) : Alu := { val := val, z := decide (val = 0), n := false, h := false, c := c }

/-- `(v << 1) mod 256` with a bit put into bit 0. -/
def shiftLeft1 (v : Byte) (low : Bool) : Byte := (v <<< 1) ||| BitVec.ofNat 8 low.toNat

/-- `v >> 1` with a bit put into bit 7. -/
def shiftRight1 (v : Byte) (high : Bool) : Byte := (v >>> 1) ||| BitVec.ofNat 8 (high.toNat * 0x80)

/-- The eight operations of `rot[o]` on the operand and the old carry (R106; 44_rotate_shift_bit.md R235 to R242). -/
def rotCompute (o : RotOp) (v : Byte) (carry : Bool) : Alu :=
  match o with
  | .rlc => shiftResult (shiftLeft1 v (bit v 7)) (bit v 7)
  | .rrc => shiftResult (shiftRight1 v (bit v 0)) (bit v 0)
  | .rl => shiftResult (shiftLeft1 v carry) (bit v 7)
  | .rr => shiftResult (shiftRight1 v carry) (bit v 0)
  | .sla => shiftResult (shiftLeft1 v false) (bit v 7)
  | .sra => shiftResult (shiftRight1 v (bit v 7)) (bit v 0)
  | .swap => shiftResult ((v <<< 4) ||| (v >>> 4)) false
  | .srl => shiftResult (shiftRight1 v false) (bit v 0)

/-- The extended rotate that moves the bits as an accumulator rotate does. -/
def accRotOp (o : AccRot) : RotOp :=
  match o with
  | .rlca => .rlc
  | .rrca => .rrc
  | .rla => .rl
  | .rra => .rr

/-- An accumulator rotate: as the extended rotate, but Z forced 0 (44_rotate_shift_bit.md R230 to R233; 90_conflicts.md C4). -/
def accRotCompute (o : AccRot) (a : Byte) (carry : Bool) : Alu := { rotCompute (accRotOp o) a carry with z := false }

/-- A result's flags into `F`. -/
def setAluFlags (r : Alu) (s : State) : State := setFlags r.z r.n r.h r.c s

end Sys2Proof.Machine
end

