-- ==== Sys2Proof/Machine/Alu16.lean ====
section
/-! DEFINITION. 16-bit arithmetic (43_alu16.md R220 to R223). -/

namespace Sys2Proof.Machine

/-- `ADD HL,rp[p]`: N forced 0, H and C from bits 11 and 15, Z kept (R220). -/
def addHlPair (p : Pair) (s : State) : Except Fault State :=
  let r := addWord (getHL s) (getPair p s)
  .ok (setFlags (zf s) false r.h r.c (setHL r.val s))

/-- `rp[p] <- (rp[p] + 1) mod 65536`; no flag (R221). -/
def incPair (p : Pair) (s : State) : Except Fault State := .ok (setPair p (getPair p s + 1) s)

/-- `rp[p] <- (rp[p] - 1) mod 65536`; no flag (R222). -/
def decPair (p : Pair) (s : State) : Except Fault State := .ok (setPair p (getPair p s - 1) s)

/-- `(res, h, c) <- AddSP(SP, e); SP <- res; Zf <- 0; Nf <- 0; Hf <- h; Cf <- c` (R223). -/
def addSpE (e : Byte) (s : State) : Except Fault State :=
  let r := addSp s.params.addSpFlags s.cpu.sp e
  .ok (setFlags false false r.h r.c (setSp r.val s))

/-! ## The table's rows -/

/-- `INC BC`, 0x03: R221. -/
def exec_inc_bc (s : State) : Out := finish (cyc 0x03 s) (incPair .bc s)

/-- `ADD HL,BC`, 0x09: R220. -/
def exec_add_hl_bc (s : State) : Out := finish (cyc 0x09 s) (addHlPair .bc s)

/-- `DEC BC`, 0x0B: R222. -/
def exec_dec_bc (s : State) : Out := finish (cyc 0x0B s) (decPair .bc s)

/-- `INC DE`, 0x13: R221. -/
def exec_inc_de (s : State) : Out := finish (cyc 0x13 s) (incPair .de s)

/-- `ADD HL,DE`, 0x19: R220. -/
def exec_add_hl_de (s : State) : Out := finish (cyc 0x19 s) (addHlPair .de s)

/-- `DEC DE`, 0x1B: R222. -/
def exec_dec_de (s : State) : Out := finish (cyc 0x1B s) (decPair .de s)

/-- `INC HL`, 0x23: R221. -/
def exec_inc_hl (s : State) : Out := finish (cyc 0x23 s) (incPair .hl s)

/-- `ADD HL,HL`, 0x29: R220. -/
def exec_add_hl_hl (s : State) : Out := finish (cyc 0x29 s) (addHlPair .hl s)

/-- `DEC HL`, 0x2B: R222. -/
def exec_dec_hl (s : State) : Out := finish (cyc 0x2B s) (decPair .hl s)

/-- `INC SP`, 0x33: R221. -/
def exec_inc_sp (s : State) : Out := finish (cyc 0x33 s) (incPair .sp s)

/-- `ADD HL,SP`, 0x39: R220. -/
def exec_add_hl_sp (s : State) : Out := finish (cyc 0x39 s) (addHlPair .sp s)

/-- `DEC SP`, 0x3B: R222. -/
def exec_dec_sp (s : State) : Out := finish (cyc 0x3B s) (decPair .sp s)

/-- `ADD SP,e`, 0xE8: R223. -/
def exec_add_sp_e (e : Byte) (s : State) : Out := finish (cyc 0xE8 s) (addSpE e s)

end Sys2Proof.Machine
end

