-- ==== Sys2Proof/Machine/Alu8.lean ====
section
/-! DEFINITION. 8-bit arithmetic and logic (42_alu8.md R181 to R194). -/

namespace Sys2Proof.Machine

/-- `alu[a]` on A and an operand value (R181 to R188). -/
def aluOn (op : AluOp) (v : Byte) (s : State) : State :=
  let r := aluCompute op s.cpu.a v (cf s)
  setAluFlags r (if aluWrites op then setReg .a r.val s else s)

/-- `alu[a] A,r[z]` (R181 to R188). -/
def alu (op : AluOp) (v : Loc8) (s : State) : Except Fault State := do
  let x ← readLoc v s
  .ok (aluOn op x s)

/-- `alu[a] A,n` (R181 to R188). -/
def aluImm (op : AluOp) (n : Byte) (s : State) : Except Fault State := .ok (aluOn op n s)

/-- `INC r[y]`, one read then one write (R189). -/
def incLoc (v : Loc8) (s : State) : Except Fault State := do
  let x ← readLoc v s
  let r := incByte x (cf s)
  let t ← writeLoc v r.val s
  .ok (setAluFlags r t)

/-- `DEC r[y]`, one read then one write (R190). -/
def decLoc (v : Loc8) (s : State) : Except Fault State := do
  let x ← readLoc v s
  let r := decByte x (cf s)
  let t ← writeLoc v r.val s
  .ok (setAluFlags r t)

/-- `DAA` (R191). -/
def daaOp (s : State) : Except Fault State :=
  let r := daaCompute s.cpu.a (nf s) (hf s) (cf s)
  .ok (setAluFlags r (setReg .a r.val s))

/-- `A <- A XOR 0xFF; Nf <- 1; Hf <- 1` (R192). -/
def cplOp (s : State) : Except Fault State := .ok (setFlags (zf s) true true (cf s) (setReg .a (s.cpu.a ^^^ 0xFF) s))

/-- `Nf <- 0; Hf <- 0; Cf <- 1` (R193). -/
def scfOp (s : State) : Except Fault State := .ok (setFlags (zf s) false false true s)

/-- `Nf <- 0; Hf <- 0; Cf <- 1 - Cf` (R194). -/
def ccfOp (s : State) : Except Fault State := .ok (setFlags (zf s) false false (!cf s) s)

/-! ## The table's rows -/

/-- `INC B`, 0x04: R189. -/
def exec_inc_b (s : State) : Out := finish (cyc 0x04 s) (incLoc (.reg .b) s)

/-- `DEC B`, 0x05: R190. -/
def exec_dec_b (s : State) : Out := finish (cyc 0x05 s) (decLoc (.reg .b) s)

/-- `INC C`, 0x0C: R189. -/
def exec_inc_c (s : State) : Out := finish (cyc 0x0C s) (incLoc (.reg .c) s)

/-- `DEC C`, 0x0D: R190. -/
def exec_dec_c (s : State) : Out := finish (cyc 0x0D s) (decLoc (.reg .c) s)

/-- `INC D`, 0x14: R189. -/
def exec_inc_d (s : State) : Out := finish (cyc 0x14 s) (incLoc (.reg .d) s)

/-- `DEC D`, 0x15: R190. -/
def exec_dec_d (s : State) : Out := finish (cyc 0x15 s) (decLoc (.reg .d) s)

/-- `INC E`, 0x1C: R189. -/
def exec_inc_e (s : State) : Out := finish (cyc 0x1C s) (incLoc (.reg .e) s)

/-- `DEC E`, 0x1D: R190. -/
def exec_dec_e (s : State) : Out := finish (cyc 0x1D s) (decLoc (.reg .e) s)

/-- `INC H`, 0x24: R189. -/
def exec_inc_h (s : State) : Out := finish (cyc 0x24 s) (incLoc (.reg .h) s)

/-- `DEC H`, 0x25: R190. -/
def exec_dec_h (s : State) : Out := finish (cyc 0x25 s) (decLoc (.reg .h) s)

/-- `DAA`, 0x27: R191. -/
def exec_daa (s : State) : Out := finish (cyc 0x27 s) (daaOp s)

/-- `INC L`, 0x2C: R189. -/
def exec_inc_l (s : State) : Out := finish (cyc 0x2C s) (incLoc (.reg .l) s)

/-- `DEC L`, 0x2D: R190. -/
def exec_dec_l (s : State) : Out := finish (cyc 0x2D s) (decLoc (.reg .l) s)

/-- `CPL`, 0x2F: R192. -/
def exec_cpl (s : State) : Out := finish (cyc 0x2F s) (cplOp s)

/-- `INC (HL)`, 0x34: R189. -/
def exec_inc_atHL (s : State) : Out := finish (cyc 0x34 s) (incLoc .atHL s)

/-- `DEC (HL)`, 0x35: R190. -/
def exec_dec_atHL (s : State) : Out := finish (cyc 0x35 s) (decLoc .atHL s)

/-- `SCF`, 0x37: R193. -/
def exec_scf (s : State) : Out := finish (cyc 0x37 s) (scfOp s)

/-- `INC A`, 0x3C: R189. -/
def exec_inc_a (s : State) : Out := finish (cyc 0x3C s) (incLoc (.reg .a) s)

/-- `DEC A`, 0x3D: R190. -/
def exec_dec_a (s : State) : Out := finish (cyc 0x3D s) (decLoc (.reg .a) s)

/-- `CCF`, 0x3F: R194. -/
def exec_ccf (s : State) : Out := finish (cyc 0x3F s) (ccfOp s)

/-- `ADD A,B`, 0x80: R181. -/
def exec_add_a_b (s : State) : Out := finish (cyc 0x80 s) (alu .add (.reg .b) s)

/-- `ADD A,C`, 0x81: R181. -/
def exec_add_a_c (s : State) : Out := finish (cyc 0x81 s) (alu .add (.reg .c) s)

/-- `ADD A,D`, 0x82: R181. -/
def exec_add_a_d (s : State) : Out := finish (cyc 0x82 s) (alu .add (.reg .d) s)

/-- `ADD A,E`, 0x83: R181. -/
def exec_add_a_e (s : State) : Out := finish (cyc 0x83 s) (alu .add (.reg .e) s)

/-- `ADD A,H`, 0x84: R181. -/
def exec_add_a_h (s : State) : Out := finish (cyc 0x84 s) (alu .add (.reg .h) s)

/-- `ADD A,L`, 0x85: R181. -/
def exec_add_a_l (s : State) : Out := finish (cyc 0x85 s) (alu .add (.reg .l) s)

/-- `ADD A,(HL)`, 0x86: R181. -/
def exec_add_a_atHL (s : State) : Out := finish (cyc 0x86 s) (alu .add .atHL s)

/-- `ADD A,A`, 0x87: R181. -/
def exec_add_a_a (s : State) : Out := finish (cyc 0x87 s) (alu .add (.reg .a) s)

/-- `ADC A,B`, 0x88: R182. -/
def exec_adc_a_b (s : State) : Out := finish (cyc 0x88 s) (alu .adc (.reg .b) s)

/-- `ADC A,C`, 0x89: R182. -/
def exec_adc_a_c (s : State) : Out := finish (cyc 0x89 s) (alu .adc (.reg .c) s)

/-- `ADC A,D`, 0x8A: R182. -/
def exec_adc_a_d (s : State) : Out := finish (cyc 0x8A s) (alu .adc (.reg .d) s)

/-- `ADC A,E`, 0x8B: R182. -/
def exec_adc_a_e (s : State) : Out := finish (cyc 0x8B s) (alu .adc (.reg .e) s)

/-- `ADC A,H`, 0x8C: R182. -/
def exec_adc_a_h (s : State) : Out := finish (cyc 0x8C s) (alu .adc (.reg .h) s)

/-- `ADC A,L`, 0x8D: R182. -/
def exec_adc_a_l (s : State) : Out := finish (cyc 0x8D s) (alu .adc (.reg .l) s)

/-- `ADC A,(HL)`, 0x8E: R182. -/
def exec_adc_a_atHL (s : State) : Out := finish (cyc 0x8E s) (alu .adc .atHL s)

/-- `ADC A,A`, 0x8F: R182. -/
def exec_adc_a_a (s : State) : Out := finish (cyc 0x8F s) (alu .adc (.reg .a) s)

/-- `SUB B`, 0x90: R183. -/
def exec_sub_b (s : State) : Out := finish (cyc 0x90 s) (alu .sub (.reg .b) s)

/-- `SUB C`, 0x91: R183. -/
def exec_sub_c (s : State) : Out := finish (cyc 0x91 s) (alu .sub (.reg .c) s)

/-- `SUB D`, 0x92: R183. -/
def exec_sub_d (s : State) : Out := finish (cyc 0x92 s) (alu .sub (.reg .d) s)

/-- `SUB E`, 0x93: R183. -/
def exec_sub_e (s : State) : Out := finish (cyc 0x93 s) (alu .sub (.reg .e) s)

/-- `SUB H`, 0x94: R183. -/
def exec_sub_h (s : State) : Out := finish (cyc 0x94 s) (alu .sub (.reg .h) s)

/-- `SUB L`, 0x95: R183. -/
def exec_sub_l (s : State) : Out := finish (cyc 0x95 s) (alu .sub (.reg .l) s)

/-- `SUB (HL)`, 0x96: R183. -/
def exec_sub_atHL (s : State) : Out := finish (cyc 0x96 s) (alu .sub .atHL s)

/-- `SUB A`, 0x97: R183. -/
def exec_sub_a (s : State) : Out := finish (cyc 0x97 s) (alu .sub (.reg .a) s)

/-- `SBC A,B`, 0x98: R184. -/
def exec_sbc_a_b (s : State) : Out := finish (cyc 0x98 s) (alu .sbc (.reg .b) s)

/-- `SBC A,C`, 0x99: R184. -/
def exec_sbc_a_c (s : State) : Out := finish (cyc 0x99 s) (alu .sbc (.reg .c) s)

/-- `SBC A,D`, 0x9A: R184. -/
def exec_sbc_a_d (s : State) : Out := finish (cyc 0x9A s) (alu .sbc (.reg .d) s)

/-- `SBC A,E`, 0x9B: R184. -/
def exec_sbc_a_e (s : State) : Out := finish (cyc 0x9B s) (alu .sbc (.reg .e) s)

/-- `SBC A,H`, 0x9C: R184. -/
def exec_sbc_a_h (s : State) : Out := finish (cyc 0x9C s) (alu .sbc (.reg .h) s)

/-- `SBC A,L`, 0x9D: R184. -/
def exec_sbc_a_l (s : State) : Out := finish (cyc 0x9D s) (alu .sbc (.reg .l) s)

/-- `SBC A,(HL)`, 0x9E: R184. -/
def exec_sbc_a_atHL (s : State) : Out := finish (cyc 0x9E s) (alu .sbc .atHL s)

/-- `SBC A,A`, 0x9F: R184. -/
def exec_sbc_a_a (s : State) : Out := finish (cyc 0x9F s) (alu .sbc (.reg .a) s)

/-- `AND B`, 0xA0: R185. -/
def exec_and_b (s : State) : Out := finish (cyc 0xA0 s) (alu .and (.reg .b) s)

/-- `AND C`, 0xA1: R185. -/
def exec_and_c (s : State) : Out := finish (cyc 0xA1 s) (alu .and (.reg .c) s)

/-- `AND D`, 0xA2: R185. -/
def exec_and_d (s : State) : Out := finish (cyc 0xA2 s) (alu .and (.reg .d) s)

/-- `AND E`, 0xA3: R185. -/
def exec_and_e (s : State) : Out := finish (cyc 0xA3 s) (alu .and (.reg .e) s)

/-- `AND H`, 0xA4: R185. -/
def exec_and_h (s : State) : Out := finish (cyc 0xA4 s) (alu .and (.reg .h) s)

/-- `AND L`, 0xA5: R185. -/
def exec_and_l (s : State) : Out := finish (cyc 0xA5 s) (alu .and (.reg .l) s)

/-- `AND (HL)`, 0xA6: R185. -/
def exec_and_atHL (s : State) : Out := finish (cyc 0xA6 s) (alu .and .atHL s)

/-- `AND A`, 0xA7: R185. -/
def exec_and_a (s : State) : Out := finish (cyc 0xA7 s) (alu .and (.reg .a) s)

/-- `XOR B`, 0xA8: R186. -/
def exec_xor_b (s : State) : Out := finish (cyc 0xA8 s) (alu .xor (.reg .b) s)

/-- `XOR C`, 0xA9: R186. -/
def exec_xor_c (s : State) : Out := finish (cyc 0xA9 s) (alu .xor (.reg .c) s)

/-- `XOR D`, 0xAA: R186. -/
def exec_xor_d (s : State) : Out := finish (cyc 0xAA s) (alu .xor (.reg .d) s)

/-- `XOR E`, 0xAB: R186. -/
def exec_xor_e (s : State) : Out := finish (cyc 0xAB s) (alu .xor (.reg .e) s)

/-- `XOR H`, 0xAC: R186. -/
def exec_xor_h (s : State) : Out := finish (cyc 0xAC s) (alu .xor (.reg .h) s)

/-- `XOR L`, 0xAD: R186. -/
def exec_xor_l (s : State) : Out := finish (cyc 0xAD s) (alu .xor (.reg .l) s)

/-- `XOR (HL)`, 0xAE: R186. -/
def exec_xor_atHL (s : State) : Out := finish (cyc 0xAE s) (alu .xor .atHL s)

/-- `XOR A`, 0xAF: R186. -/
def exec_xor_a (s : State) : Out := finish (cyc 0xAF s) (alu .xor (.reg .a) s)

/-- `OR B`, 0xB0: R187. -/
def exec_or_b (s : State) : Out := finish (cyc 0xB0 s) (alu .or (.reg .b) s)

/-- `OR C`, 0xB1: R187. -/
def exec_or_c (s : State) : Out := finish (cyc 0xB1 s) (alu .or (.reg .c) s)

/-- `OR D`, 0xB2: R187. -/
def exec_or_d (s : State) : Out := finish (cyc 0xB2 s) (alu .or (.reg .d) s)

/-- `OR E`, 0xB3: R187. -/
def exec_or_e (s : State) : Out := finish (cyc 0xB3 s) (alu .or (.reg .e) s)

/-- `OR H`, 0xB4: R187. -/
def exec_or_h (s : State) : Out := finish (cyc 0xB4 s) (alu .or (.reg .h) s)

/-- `OR L`, 0xB5: R187. -/
def exec_or_l (s : State) : Out := finish (cyc 0xB5 s) (alu .or (.reg .l) s)

/-- `OR (HL)`, 0xB6: R187. -/
def exec_or_atHL (s : State) : Out := finish (cyc 0xB6 s) (alu .or .atHL s)

/-- `OR A`, 0xB7: R187. -/
def exec_or_a (s : State) : Out := finish (cyc 0xB7 s) (alu .or (.reg .a) s)

/-- `CP B`, 0xB8: R188. -/
def exec_cp_b (s : State) : Out := finish (cyc 0xB8 s) (alu .cp (.reg .b) s)

/-- `CP C`, 0xB9: R188. -/
def exec_cp_c (s : State) : Out := finish (cyc 0xB9 s) (alu .cp (.reg .c) s)

/-- `CP D`, 0xBA: R188. -/
def exec_cp_d (s : State) : Out := finish (cyc 0xBA s) (alu .cp (.reg .d) s)

/-- `CP E`, 0xBB: R188. -/
def exec_cp_e (s : State) : Out := finish (cyc 0xBB s) (alu .cp (.reg .e) s)

/-- `CP H`, 0xBC: R188. -/
def exec_cp_h (s : State) : Out := finish (cyc 0xBC s) (alu .cp (.reg .h) s)

/-- `CP L`, 0xBD: R188. -/
def exec_cp_l (s : State) : Out := finish (cyc 0xBD s) (alu .cp (.reg .l) s)

/-- `CP (HL)`, 0xBE: R188. -/
def exec_cp_atHL (s : State) : Out := finish (cyc 0xBE s) (alu .cp .atHL s)

/-- `CP A`, 0xBF: R188. -/
def exec_cp_a (s : State) : Out := finish (cyc 0xBF s) (alu .cp (.reg .a) s)

/-- `ADD A,n`, 0xC6: R181. -/
def exec_add_a_n (n : Byte) (s : State) : Out := finish (cyc 0xC6 s) (aluImm .add n s)

/-- `ADC A,n`, 0xCE: R182. -/
def exec_adc_a_n (n : Byte) (s : State) : Out := finish (cyc 0xCE s) (aluImm .adc n s)

/-- `SUB n`, 0xD6: R183. -/
def exec_sub_n (n : Byte) (s : State) : Out := finish (cyc 0xD6 s) (aluImm .sub n s)

/-- `SBC A,n`, 0xDE: R184. -/
def exec_sbc_a_n (n : Byte) (s : State) : Out := finish (cyc 0xDE s) (aluImm .sbc n s)

/-- `AND n`, 0xE6: R185. -/
def exec_and_n (n : Byte) (s : State) : Out := finish (cyc 0xE6 s) (aluImm .and n s)

/-- `XOR n`, 0xEE: R186. -/
def exec_xor_n (n : Byte) (s : State) : Out := finish (cyc 0xEE s) (aluImm .xor n s)

/-- `OR n`, 0xF6: R187. -/
def exec_or_n (n : Byte) (s : State) : Out := finish (cyc 0xF6 s) (aluImm .or n s)

/-- `CP n`, 0xFE: R188. -/
def exec_cp_n (n : Byte) (s : State) : Out := finish (cyc 0xFE s) (aluImm .cp n s)

end Sys2Proof.Machine
end

