-- ==== Sys2Proof/Machine/Control.lean ====
section
/-! DEFINITION. Control transfer (45_control.md R260 to R270). A meaning runs with `PC` at the address after the instruction's last byte. -/

namespace Sys2Proof.Machine

/-- `PC <- nn` (R260). -/
def jp (nn : Word) (s : State) : Except Fault State := .ok (setPc nn s)

/-- `if cond(cc) then PC <- nn` (R261); the first component says whether the jump is taken. -/
def jpCc (cc : Cond) (nn : Word) (s : State) : Except Fault (Bool × State) :=
  .ok (cond cc s, if cond cc s then setPc nn s else s)

/-- `PC <- HL`; no memory is read (R262). -/
def jpHl (s : State) : Except Fault State := .ok (setPc (getHL s) s)

/-- `PC <- (PC + sext_16(e)) mod 65536` (R263). -/
def jr (e : Byte) (s : State) : Except Fault State := .ok (setPc (s.cpu.pc + sext16 e) s)

/-- `if cond(cc) then PC <- (PC + sext_16(e)) mod 65536` (R264). -/
def jrCc (cc : Cond) (e : Byte) (s : State) : Except Fault (Bool × State) :=
  .ok (cond cc s, if cond cc s then setPc (s.cpu.pc + sext16 e) s else s)

/-- `Push16(PC); PC <- nn` (R265). -/
def call (nn : Word) (s : State) : Except Fault State := do
  let t ← push16 s.cpu.pc s
  .ok (setPc nn t)

/-- `if cond(cc) then Push16(PC); PC <- nn` (R266). -/
def callCc (cc : Cond) (nn : Word) (s : State) : Except Fault (Bool × State) :=
  if cond cc s then do
    let t ← call nn s
    .ok (true, t)
  else .ok (false, s)

/-- `PC <- Pop16()` (R267). -/
def ret (s : State) : Except Fault State := do
  let (w, t) ← pop16 s
  .ok (setPc w t)

/-- `if cond(cc) then PC <- Pop16()`; not taken reads no memory (R268). -/
def retCc (cc : Cond) (s : State) : Except Fault (Bool × State) :=
  if cond cc s then do
    let t ← ret s
    .ok (true, t)
  else .ok (false, s)

/-- `PC <- Pop16(); IME <- 1` (R269). -/
def reti (s : State) : Except Fault State := returnFromInterrupt s

/-- The target `t * 8` of a restart (R270). -/
def rstTarget (t : Three) : Word := BitVec.ofNat 16 (threeVal t * 8)

/-- `Push16(PC); PC <- t * 8` (R270). -/
def rst (t : Three) (s : State) : Except Fault State := call (rstTarget t) s

/-! ## The table's rows -/

/-- `JR e`, 0x18: R263. -/
def exec_jr_e (e : Byte) (s : State) : Out := finish (cyc 0x18 s) (jr e s)

/-- `JR NZ,e`, 0x20: R264. -/
def exec_jr_nz_e (e : Byte) (s : State) : Out := finishIf (cyc 0x20 s) (cycNotTaken 0x20 s) (jrCc .nz e s)

/-- `JR Z,e`, 0x28: R264. -/
def exec_jr_z_e (e : Byte) (s : State) : Out := finishIf (cyc 0x28 s) (cycNotTaken 0x28 s) (jrCc .z e s)

/-- `JR NC,e`, 0x30: R264. -/
def exec_jr_nc_e (e : Byte) (s : State) : Out := finishIf (cyc 0x30 s) (cycNotTaken 0x30 s) (jrCc .nc e s)

/-- `JR C,e`, 0x38: R264. -/
def exec_jr_c_e (e : Byte) (s : State) : Out := finishIf (cyc 0x38 s) (cycNotTaken 0x38 s) (jrCc .c e s)

/-- `RET NZ`, 0xC0: R268. -/
def exec_ret_nz (s : State) : Out := finishIf (cyc 0xC0 s) (cycNotTaken 0xC0 s) (retCc .nz s)

/-- `JP NZ,nn`, 0xC2: R261. -/
def exec_jp_nz_nn (nn : Word) (s : State) : Out := finishIf (cyc 0xC2 s) (cycNotTaken 0xC2 s) (jpCc .nz nn s)

/-- `JP nn`, 0xC3: R260. -/
def exec_jp_nn (nn : Word) (s : State) : Out := finish (cyc 0xC3 s) (jp nn s)

/-- `CALL NZ,nn`, 0xC4: R266. -/
def exec_call_nz_nn (nn : Word) (s : State) : Out := finishIf (cyc 0xC4 s) (cycNotTaken 0xC4 s) (callCc .nz nn s)

/-- `RST 0x00`, 0xC7: R270. -/
def exec_rst_00 (s : State) : Out := finish (cyc 0xC7 s) (rst .n0 s)

/-- `RET Z`, 0xC8: R268. -/
def exec_ret_z (s : State) : Out := finishIf (cyc 0xC8 s) (cycNotTaken 0xC8 s) (retCc .z s)

/-- `RET`, 0xC9: R267. -/
def exec_ret (s : State) : Out := finish (cyc 0xC9 s) (ret s)

/-- `JP Z,nn`, 0xCA: R261. -/
def exec_jp_z_nn (nn : Word) (s : State) : Out := finishIf (cyc 0xCA s) (cycNotTaken 0xCA s) (jpCc .z nn s)

/-- `CALL Z,nn`, 0xCC: R266. -/
def exec_call_z_nn (nn : Word) (s : State) : Out := finishIf (cyc 0xCC s) (cycNotTaken 0xCC s) (callCc .z nn s)

/-- `CALL nn`, 0xCD: R265. -/
def exec_call_nn (nn : Word) (s : State) : Out := finish (cyc 0xCD s) (call nn s)

/-- `RST 0x08`, 0xCF: R270. -/
def exec_rst_08 (s : State) : Out := finish (cyc 0xCF s) (rst .n1 s)

/-- `RET NC`, 0xD0: R268. -/
def exec_ret_nc (s : State) : Out := finishIf (cyc 0xD0 s) (cycNotTaken 0xD0 s) (retCc .nc s)

/-- `JP NC,nn`, 0xD2: R261. -/
def exec_jp_nc_nn (nn : Word) (s : State) : Out := finishIf (cyc 0xD2 s) (cycNotTaken 0xD2 s) (jpCc .nc nn s)

/-- `CALL NC,nn`, 0xD4: R266. -/
def exec_call_nc_nn (nn : Word) (s : State) : Out := finishIf (cyc 0xD4 s) (cycNotTaken 0xD4 s) (callCc .nc nn s)

/-- `RST 0x10`, 0xD7: R270. -/
def exec_rst_10 (s : State) : Out := finish (cyc 0xD7 s) (rst .n2 s)

/-- `RET C`, 0xD8: R268. -/
def exec_ret_c (s : State) : Out := finishIf (cyc 0xD8 s) (cycNotTaken 0xD8 s) (retCc .c s)

/-- `RETI`, 0xD9: R269. -/
def exec_reti (s : State) : Out := finish (cyc 0xD9 s) (reti s)

/-- `JP C,nn`, 0xDA: R261. -/
def exec_jp_c_nn (nn : Word) (s : State) : Out := finishIf (cyc 0xDA s) (cycNotTaken 0xDA s) (jpCc .c nn s)

/-- `CALL C,nn`, 0xDC: R266. -/
def exec_call_c_nn (nn : Word) (s : State) : Out := finishIf (cyc 0xDC s) (cycNotTaken 0xDC s) (callCc .c nn s)

/-- `RST 0x18`, 0xDF: R270. -/
def exec_rst_18 (s : State) : Out := finish (cyc 0xDF s) (rst .n3 s)

/-- `RST 0x20`, 0xE7: R270. -/
def exec_rst_20 (s : State) : Out := finish (cyc 0xE7 s) (rst .n4 s)

/-- `JP HL`, 0xE9: R262. -/
def exec_jp_hl (s : State) : Out := finish (cyc 0xE9 s) (jpHl s)

/-- `RST 0x28`, 0xEF: R270. -/
def exec_rst_28 (s : State) : Out := finish (cyc 0xEF s) (rst .n5 s)

/-- `RST 0x30`, 0xF7: R270. -/
def exec_rst_30 (s : State) : Out := finish (cyc 0xF7 s) (rst .n6 s)

/-- `RST 0x38`, 0xFF: R270. -/
def exec_rst_38 (s : State) : Out := finish (cyc 0xFF s) (rst .n7 s)

end Sys2Proof.Machine
end

