-- ==== Sys2Proof/Machine/Load16.lean ====
section
/-! DEFINITION. The 16-bit loads, `PUSH` and `POP` (41_load16_stack.md R160 to R166). -/

namespace Sys2Proof.Machine

/-- `rp[p] <- nn` (R160). -/
def ldPairImm (p : Pair) (nn : Word) (s : State) : Except Fault State := .ok (setPair p nn s)

/-- `MemWrite(nn, 1, SP[7:0]); MemWrite((nn + 1) mod 65536, 1, SP[15:8])` (R161). -/
def storeSp (nn : Word) (s : State) : Except Fault State := do
  let t ← memWrite nn (loByte s.cpu.sp) s
  memWrite (nn + 1) (hiByte s.cpu.sp) t

/-- `SP <- HL` (R162). -/
def ldSpHl (s : State) : Except Fault State := .ok (setSp (getHL s) s)

/-- `(res, h, c) <- AddSP(SP, e); HL <- res; Zf <- 0; Nf <- 0; Hf <- h; Cf <- c` (R163). -/
def ldHlSpE (e : Byte) (s : State) : Except Fault State :=
  let r := addSp s.params.addSpFlags s.cpu.sp e
  .ok (setFlags false false r.h r.c (setHL r.val s))

/-- `Push16(rp2[p])` (R164). -/
def pushPair (p : StackPair) (s : State) : Except Fault State := push16 (getStackPair p s) s

/-- `w <- Pop16(); rp2[p] <- w` (R165, R166). -/
def popPair (p : StackPair) (s : State) : Except Fault State := do
  let (w, t) ← pop16 s
  .ok (setStackPair p w t)

/-! ## The table's rows -/

/-- `LD BC,nn`, 0x01: R160. -/
def exec_ld_bc_nn (nn : Word) (s : State) : Out := finish (cyc 0x01 s) (ldPairImm .bc nn s)

/-- `LD (nn),SP`, 0x08: R161. -/
def exec_ld_atNn_sp (nn : Word) (s : State) : Out := finish (cyc 0x08 s) (storeSp nn s)

/-- `LD DE,nn`, 0x11: R160. -/
def exec_ld_de_nn (nn : Word) (s : State) : Out := finish (cyc 0x11 s) (ldPairImm .de nn s)

/-- `LD HL,nn`, 0x21: R160. -/
def exec_ld_hl_nn (nn : Word) (s : State) : Out := finish (cyc 0x21 s) (ldPairImm .hl nn s)

/-- `LD SP,nn`, 0x31: R160. -/
def exec_ld_sp_nn (nn : Word) (s : State) : Out := finish (cyc 0x31 s) (ldPairImm .sp nn s)

/-- `POP BC`, 0xC1: R165. -/
def exec_pop_bc (s : State) : Out := finish (cyc 0xC1 s) (popPair .bc s)

/-- `PUSH BC`, 0xC5: R164. -/
def exec_push_bc (s : State) : Out := finish (cyc 0xC5 s) (pushPair .bc s)

/-- `POP DE`, 0xD1: R165. -/
def exec_pop_de (s : State) : Out := finish (cyc 0xD1 s) (popPair .de s)

/-- `PUSH DE`, 0xD5: R164. -/
def exec_push_de (s : State) : Out := finish (cyc 0xD5 s) (pushPair .de s)

/-- `POP HL`, 0xE1: R165. -/
def exec_pop_hl (s : State) : Out := finish (cyc 0xE1 s) (popPair .hl s)

/-- `PUSH HL`, 0xE5: R164. -/
def exec_push_hl (s : State) : Out := finish (cyc 0xE5 s) (pushPair .hl s)

/-- `POP AF`, 0xF1: R166. -/
def exec_pop_af (s : State) : Out := finish (cyc 0xF1 s) (popPair .af s)

/-- `PUSH AF`, 0xF5: R164. -/
def exec_push_af (s : State) : Out := finish (cyc 0xF5 s) (pushPair .af s)

/-- `LD HL,SP+e`, 0xF8: R163. -/
def exec_ld_hl_spPlusE (e : Byte) (s : State) : Out := finish (cyc 0xF8 s) (ldHlSpE e s)

/-- `LD SP,HL`, 0xF9: R162. -/
def exec_ld_sp_hl (s : State) : Out := finish (cyc 0xF9 s) (ldSpHl s)

end Sys2Proof.Machine
end

