-- ==== Sys2Proof/Machine/Load8.lean ====
section
/-! DEFINITION. The 8-bit loads (40_load8.md R130 to R148): the shared operations, then one meaning per table row. A meaning runs with `PC` past the
instruction's last byte; its operand bytes are its arguments (log 37). No load writes a flag. -/

namespace Sys2Proof.Machine

/-- `r[y] <- r[z]` (R130). -/
def ldReg (dst src : Reg8) (s : State) : Except Fault State := .ok (setReg dst (getReg src s) s)

/-- `r[y] <- n` (R131), `MemWrite(HL, 1, n)` for `y = 6` (R134). -/
def ldImm (v : Loc8) (n : Byte) (s : State) : Except Fault State := writeLoc v n s

/-- `r[y] <- MemRead(HL, 1)` (R132). -/
def ldFromHL (dst : Reg8) (s : State) : Except Fault State := do
  let x ← memRead (getHL s) s
  .ok (setReg dst x s)

/-- `MemWrite(HL, 1, r[z])` (R133). -/
def ldToHL (src : Reg8) (s : State) : Except Fault State := memWrite (getHL s) (getReg src s) s

/-- `A <- MemRead(a, 1)` (R139). -/
def loadAAt (a : Word) (s : State) : Except Fault State := do
  let x ← memRead a s
  .ok (setReg .a x s)

/-- `MemWrite(a, 1, A)` (R140). -/
def storeAAt (a : Word) (s : State) : Except Fault State := memWrite a s.cpu.a s

/-- The address a pointer form accesses: `BC`, `DE` or `HL`. -/
def pointerAddr (p : Pointer) (s : State) : Word :=
  match p with
  | .bc => getPair .bc s
  | .de => getPair .de s
  | .hlInc => getHL s
  | .hlDec => getHL s

/-- What a pointer form does to `HL` after the access (R145 to R148). -/
def pointerStep (p : Pointer) (s : State) : State :=
  match p with
  | .bc => s
  | .de => s
  | .hlInc => setHL (getHL s + 1) s
  | .hlDec => setHL (getHL s - 1) s

/-- `LD A,(BC)`, `LD A,(DE)`, `LD A,(HL+)`, `LD A,(HL-)` (R135, R136, R145, R147). -/
def loadAAtPtr (p : Pointer) (s : State) : Except Fault State := do
  let t ← loadAAt (pointerAddr p s) s
  .ok (pointerStep p t)

/-- `LD (BC),A`, `LD (DE),A`, `LD (HL+),A`, `LD (HL-),A` (R137, R138, R146, R148). -/
def storeAAtPtr (p : Pointer) (s : State) : Except Fault State := do
  let t ← storeAAt (pointerAddr p s) s
  .ok (pointerStep p t)

/-- The address `0xFF00 + b` of the high-page forms (R141 to R144). -/
def highPage (b : Byte) : Word := cat 0xFF b

/-- `A <- MemRead(0xFF00 + C, 1)` (R141). -/
def ldhAC (s : State) : Except Fault State := loadAAt (highPage s.cpu.c) s

/-- `MemWrite(0xFF00 + C, 1, A)` (R142). -/
def ldhCA (s : State) : Except Fault State := storeAAt (highPage s.cpu.c) s

/-- `A <- MemRead(0xFF00 + n, 1)` (R143). -/
def ldhAN (n : Byte) (s : State) : Except Fault State := loadAAt (highPage n) s

/-- `MemWrite(0xFF00 + n, 1, A)` (R144). -/
def ldhNA (n : Byte) (s : State) : Except Fault State := storeAAt (highPage n) s

/-! ## The table's rows -/

/-- `LD (BC),A`, 0x02: R137. -/
def exec_ld_atBC_a (s : State) : Out := finish (cyc 0x02 s) (storeAAtPtr .bc s)

/-- `LD B,n`, 0x06: R131. -/
def exec_ld_b_n (n : Byte) (s : State) : Out := finish (cyc 0x06 s) (ldImm (.reg .b) n s)

/-- `LD A,(BC)`, 0x0A: R135. -/
def exec_ld_a_atBC (s : State) : Out := finish (cyc 0x0A s) (loadAAtPtr .bc s)

/-- `LD C,n`, 0x0E: R131. -/
def exec_ld_c_n (n : Byte) (s : State) : Out := finish (cyc 0x0E s) (ldImm (.reg .c) n s)

/-- `LD (DE),A`, 0x12: R138. -/
def exec_ld_atDE_a (s : State) : Out := finish (cyc 0x12 s) (storeAAtPtr .de s)

/-- `LD D,n`, 0x16: R131. -/
def exec_ld_d_n (n : Byte) (s : State) : Out := finish (cyc 0x16 s) (ldImm (.reg .d) n s)

/-- `LD A,(DE)`, 0x1A: R136. -/
def exec_ld_a_atDE (s : State) : Out := finish (cyc 0x1A s) (loadAAtPtr .de s)

/-- `LD E,n`, 0x1E: R131. -/
def exec_ld_e_n (n : Byte) (s : State) : Out := finish (cyc 0x1E s) (ldImm (.reg .e) n s)

/-- `LD (HL+),A`, 0x22: R148. -/
def exec_ld_atHLinc_a (s : State) : Out := finish (cyc 0x22 s) (storeAAtPtr .hlInc s)

/-- `LD H,n`, 0x26: R131. -/
def exec_ld_h_n (n : Byte) (s : State) : Out := finish (cyc 0x26 s) (ldImm (.reg .h) n s)

/-- `LD A,(HL+)`, 0x2A: R147. -/
def exec_ld_a_atHLinc (s : State) : Out := finish (cyc 0x2A s) (loadAAtPtr .hlInc s)

/-- `LD L,n`, 0x2E: R131. -/
def exec_ld_l_n (n : Byte) (s : State) : Out := finish (cyc 0x2E s) (ldImm (.reg .l) n s)

/-- `LD (HL-),A`, 0x32: R146. -/
def exec_ld_atHLdec_a (s : State) : Out := finish (cyc 0x32 s) (storeAAtPtr .hlDec s)

/-- `LD (HL),n`, 0x36: R134. -/
def exec_ld_atHL_n (n : Byte) (s : State) : Out := finish (cyc 0x36 s) (ldImm .atHL n s)

/-- `LD A,(HL-)`, 0x3A: R145. -/
def exec_ld_a_atHLdec (s : State) : Out := finish (cyc 0x3A s) (loadAAtPtr .hlDec s)

/-- `LD A,n`, 0x3E: R131. -/
def exec_ld_a_n (n : Byte) (s : State) : Out := finish (cyc 0x3E s) (ldImm (.reg .a) n s)

/-- `LD B,B`, 0x40: R130. -/
def exec_ld_b_b (s : State) : Out := finish (cyc 0x40 s) (ldReg .b .b s)

/-- `LD B,C`, 0x41: R130. -/
def exec_ld_b_c (s : State) : Out := finish (cyc 0x41 s) (ldReg .b .c s)

/-- `LD B,D`, 0x42: R130. -/
def exec_ld_b_d (s : State) : Out := finish (cyc 0x42 s) (ldReg .b .d s)

/-- `LD B,E`, 0x43: R130. -/
def exec_ld_b_e (s : State) : Out := finish (cyc 0x43 s) (ldReg .b .e s)

/-- `LD B,H`, 0x44: R130. -/
def exec_ld_b_h (s : State) : Out := finish (cyc 0x44 s) (ldReg .b .h s)

/-- `LD B,L`, 0x45: R130. -/
def exec_ld_b_l (s : State) : Out := finish (cyc 0x45 s) (ldReg .b .l s)

/-- `LD B,(HL)`, 0x46: R132. -/
def exec_ld_b_atHL (s : State) : Out := finish (cyc 0x46 s) (ldFromHL .b s)

/-- `LD B,A`, 0x47: R130. -/
def exec_ld_b_a (s : State) : Out := finish (cyc 0x47 s) (ldReg .b .a s)

/-- `LD C,B`, 0x48: R130. -/
def exec_ld_c_b (s : State) : Out := finish (cyc 0x48 s) (ldReg .c .b s)

/-- `LD C,C`, 0x49: R130. -/
def exec_ld_c_c (s : State) : Out := finish (cyc 0x49 s) (ldReg .c .c s)

/-- `LD C,D`, 0x4A: R130. -/
def exec_ld_c_d (s : State) : Out := finish (cyc 0x4A s) (ldReg .c .d s)

/-- `LD C,E`, 0x4B: R130. -/
def exec_ld_c_e (s : State) : Out := finish (cyc 0x4B s) (ldReg .c .e s)

/-- `LD C,H`, 0x4C: R130. -/
def exec_ld_c_h (s : State) : Out := finish (cyc 0x4C s) (ldReg .c .h s)

/-- `LD C,L`, 0x4D: R130. -/
def exec_ld_c_l (s : State) : Out := finish (cyc 0x4D s) (ldReg .c .l s)

/-- `LD C,(HL)`, 0x4E: R132. -/
def exec_ld_c_atHL (s : State) : Out := finish (cyc 0x4E s) (ldFromHL .c s)

/-- `LD C,A`, 0x4F: R130. -/
def exec_ld_c_a (s : State) : Out := finish (cyc 0x4F s) (ldReg .c .a s)

/-- `LD D,B`, 0x50: R130. -/
def exec_ld_d_b (s : State) : Out := finish (cyc 0x50 s) (ldReg .d .b s)

/-- `LD D,C`, 0x51: R130. -/
def exec_ld_d_c (s : State) : Out := finish (cyc 0x51 s) (ldReg .d .c s)

/-- `LD D,D`, 0x52: R130. -/
def exec_ld_d_d (s : State) : Out := finish (cyc 0x52 s) (ldReg .d .d s)

/-- `LD D,E`, 0x53: R130. -/
def exec_ld_d_e (s : State) : Out := finish (cyc 0x53 s) (ldReg .d .e s)

/-- `LD D,H`, 0x54: R130. -/
def exec_ld_d_h (s : State) : Out := finish (cyc 0x54 s) (ldReg .d .h s)

/-- `LD D,L`, 0x55: R130. -/
def exec_ld_d_l (s : State) : Out := finish (cyc 0x55 s) (ldReg .d .l s)

/-- `LD D,(HL)`, 0x56: R132. -/
def exec_ld_d_atHL (s : State) : Out := finish (cyc 0x56 s) (ldFromHL .d s)

/-- `LD D,A`, 0x57: R130. -/
def exec_ld_d_a (s : State) : Out := finish (cyc 0x57 s) (ldReg .d .a s)

/-- `LD E,B`, 0x58: R130. -/
def exec_ld_e_b (s : State) : Out := finish (cyc 0x58 s) (ldReg .e .b s)

/-- `LD E,C`, 0x59: R130. -/
def exec_ld_e_c (s : State) : Out := finish (cyc 0x59 s) (ldReg .e .c s)

/-- `LD E,D`, 0x5A: R130. -/
def exec_ld_e_d (s : State) : Out := finish (cyc 0x5A s) (ldReg .e .d s)

/-- `LD E,E`, 0x5B: R130. -/
def exec_ld_e_e (s : State) : Out := finish (cyc 0x5B s) (ldReg .e .e s)

/-- `LD E,H`, 0x5C: R130. -/
def exec_ld_e_h (s : State) : Out := finish (cyc 0x5C s) (ldReg .e .h s)

/-- `LD E,L`, 0x5D: R130. -/
def exec_ld_e_l (s : State) : Out := finish (cyc 0x5D s) (ldReg .e .l s)

/-- `LD E,(HL)`, 0x5E: R132. -/
def exec_ld_e_atHL (s : State) : Out := finish (cyc 0x5E s) (ldFromHL .e s)

/-- `LD E,A`, 0x5F: R130. -/
def exec_ld_e_a (s : State) : Out := finish (cyc 0x5F s) (ldReg .e .a s)

/-- `LD H,B`, 0x60: R130. -/
def exec_ld_h_b (s : State) : Out := finish (cyc 0x60 s) (ldReg .h .b s)

/-- `LD H,C`, 0x61: R130. -/
def exec_ld_h_c (s : State) : Out := finish (cyc 0x61 s) (ldReg .h .c s)

/-- `LD H,D`, 0x62: R130. -/
def exec_ld_h_d (s : State) : Out := finish (cyc 0x62 s) (ldReg .h .d s)

/-- `LD H,E`, 0x63: R130. -/
def exec_ld_h_e (s : State) : Out := finish (cyc 0x63 s) (ldReg .h .e s)

/-- `LD H,H`, 0x64: R130. -/
def exec_ld_h_h (s : State) : Out := finish (cyc 0x64 s) (ldReg .h .h s)

/-- `LD H,L`, 0x65: R130. -/
def exec_ld_h_l (s : State) : Out := finish (cyc 0x65 s) (ldReg .h .l s)

/-- `LD H,(HL)`, 0x66: R132. -/
def exec_ld_h_atHL (s : State) : Out := finish (cyc 0x66 s) (ldFromHL .h s)

/-- `LD H,A`, 0x67: R130. -/
def exec_ld_h_a (s : State) : Out := finish (cyc 0x67 s) (ldReg .h .a s)

/-- `LD L,B`, 0x68: R130. -/
def exec_ld_l_b (s : State) : Out := finish (cyc 0x68 s) (ldReg .l .b s)

/-- `LD L,C`, 0x69: R130. -/
def exec_ld_l_c (s : State) : Out := finish (cyc 0x69 s) (ldReg .l .c s)

/-- `LD L,D`, 0x6A: R130. -/
def exec_ld_l_d (s : State) : Out := finish (cyc 0x6A s) (ldReg .l .d s)

/-- `LD L,E`, 0x6B: R130. -/
def exec_ld_l_e (s : State) : Out := finish (cyc 0x6B s) (ldReg .l .e s)

/-- `LD L,H`, 0x6C: R130. -/
def exec_ld_l_h (s : State) : Out := finish (cyc 0x6C s) (ldReg .l .h s)

/-- `LD L,L`, 0x6D: R130. -/
def exec_ld_l_l (s : State) : Out := finish (cyc 0x6D s) (ldReg .l .l s)

/-- `LD L,(HL)`, 0x6E: R132. -/
def exec_ld_l_atHL (s : State) : Out := finish (cyc 0x6E s) (ldFromHL .l s)

/-- `LD L,A`, 0x6F: R130. -/
def exec_ld_l_a (s : State) : Out := finish (cyc 0x6F s) (ldReg .l .a s)

/-- `LD (HL),B`, 0x70: R133. -/
def exec_ld_atHL_b (s : State) : Out := finish (cyc 0x70 s) (ldToHL .b s)

/-- `LD (HL),C`, 0x71: R133. -/
def exec_ld_atHL_c (s : State) : Out := finish (cyc 0x71 s) (ldToHL .c s)

/-- `LD (HL),D`, 0x72: R133. -/
def exec_ld_atHL_d (s : State) : Out := finish (cyc 0x72 s) (ldToHL .d s)

/-- `LD (HL),E`, 0x73: R133. -/
def exec_ld_atHL_e (s : State) : Out := finish (cyc 0x73 s) (ldToHL .e s)

/-- `LD (HL),H`, 0x74: R133. -/
def exec_ld_atHL_h (s : State) : Out := finish (cyc 0x74 s) (ldToHL .h s)

/-- `LD (HL),L`, 0x75: R133. -/
def exec_ld_atHL_l (s : State) : Out := finish (cyc 0x75 s) (ldToHL .l s)

/-- `LD (HL),A`, 0x77: R133. -/
def exec_ld_atHL_a (s : State) : Out := finish (cyc 0x77 s) (ldToHL .a s)

/-- `LD A,B`, 0x78: R130. -/
def exec_ld_a_b (s : State) : Out := finish (cyc 0x78 s) (ldReg .a .b s)

/-- `LD A,C`, 0x79: R130. -/
def exec_ld_a_c (s : State) : Out := finish (cyc 0x79 s) (ldReg .a .c s)

/-- `LD A,D`, 0x7A: R130. -/
def exec_ld_a_d (s : State) : Out := finish (cyc 0x7A s) (ldReg .a .d s)

/-- `LD A,E`, 0x7B: R130. -/
def exec_ld_a_e (s : State) : Out := finish (cyc 0x7B s) (ldReg .a .e s)

/-- `LD A,H`, 0x7C: R130. -/
def exec_ld_a_h (s : State) : Out := finish (cyc 0x7C s) (ldReg .a .h s)

/-- `LD A,L`, 0x7D: R130. -/
def exec_ld_a_l (s : State) : Out := finish (cyc 0x7D s) (ldReg .a .l s)

/-- `LD A,(HL)`, 0x7E: R132. -/
def exec_ld_a_atHL (s : State) : Out := finish (cyc 0x7E s) (ldFromHL .a s)

/-- `LD A,A`, 0x7F: R130. -/
def exec_ld_a_a (s : State) : Out := finish (cyc 0x7F s) (ldReg .a .a s)

/-- `LDH (n),A`, 0xE0: R144. -/
def exec_ldh_atN_a (n : Byte) (s : State) : Out := finish (cyc 0xE0 s) (ldhNA n s)

/-- `LDH (C),A`, 0xE2: R142. -/
def exec_ldh_atC_a (s : State) : Out := finish (cyc 0xE2 s) (ldhCA s)

/-- `LD (nn),A`, 0xEA: R140. -/
def exec_ld_atNn_a (nn : Word) (s : State) : Out := finish (cyc 0xEA s) (storeAAt nn s)

/-- `LDH A,(n)`, 0xF0: R143. -/
def exec_ldh_a_atN (n : Byte) (s : State) : Out := finish (cyc 0xF0 s) (ldhAN n s)

/-- `LDH A,(C)`, 0xF2: R141. -/
def exec_ldh_a_atC (s : State) : Out := finish (cyc 0xF2 s) (ldhAC s)

/-- `LD A,(nn)`, 0xFA: R139. -/
def exec_ld_a_atNn (nn : Word) (s : State) : Out := finish (cyc 0xFA s) (loadAAt nn s)

end Sys2Proof.Machine
end

