-- ==== Sys2Proof/Machine/RotShiftBit.lean ====
section
/-! DEFINITION. Rotates, shifts and bit operations (44_rotate_shift_bit.md R230 to R245). -/

namespace Sys2Proof.Machine

/-- The accumulator rotates (R230 to R233). -/
def accRot (o : AccRot) (s : State) : Except Fault State :=
  let r := accRotCompute o s.cpu.a (cf s)
  .ok (setAluFlags r (setReg .a r.val s))

/-- `rot[o] r[z]`: one read, one write (R234 to R242). -/
def rot (o : RotOp) (v : Loc8) (s : State) : Except Fault State := do
  let x ← readLoc v s
  let r := rotCompute o x (cf s)
  let t ← writeLoc v r.val s
  .ok (setAluFlags r t)

/-- `BIT b,r[z]`: `Zf <- (v[b] = 0); Nf <- 0; Hf <- 1`, C kept, the operand not written (R243). -/
def bitTest (b : Three) (v : Loc8) (s : State) : Except Fault State := do
  let x ← readLoc v s
  .ok (setFlags (!bit x (threeVal b)) false true (cf s) s)

/-- `RES b,r[z]`: `r[z] <- v AND (0xFF XOR (1 << b))`, no flag (R244). -/
def resBit (b : Three) (v : Loc8) (s : State) : Except Fault State := do
  let x ← readLoc v s
  writeLoc v (x &&& (0xFF ^^^ BitVec.ofNat 8 (2 ^ threeVal b))) s

/-- `SET b,r[z]`: `r[z] <- v OR (1 << b)`, no flag (R245). -/
def setBit (b : Three) (v : Loc8) (s : State) : Except Fault State := do
  let x ← readLoc v s
  writeLoc v (x ||| BitVec.ofNat 8 (2 ^ threeVal b)) s

/-- The extended-table operation of a byte, by its fields (30_encoding.md R110; 46_system.md R285). -/
def extendedOp (op2 : Byte) (s : State) : Out :=
  let v := locOf (fieldZ op2)
  match fieldX op2 with
  | 0 => finish (cycCb op2 s) (rot (rotOf (fieldY op2)) v s)
  | 1 => finish (cycCb op2 s) (bitTest (threeOf (fieldY op2)) v s)
  | 2 => finish (cycCb op2 s) (resBit (threeOf (fieldY op2)) v s)
  | _ => finish (cycCb op2 s) (setBit (threeOf (fieldY op2)) v s)

/-! ## The table's rows -/

/-- `RLCA`, 0x07: R230. -/
def exec_rlca (s : State) : Out := finish (cyc 0x07 s) (accRot .rlca s)

/-- `RRCA`, 0x0F: R231. -/
def exec_rrca (s : State) : Out := finish (cyc 0x0F s) (accRot .rrca s)

/-- `RLA`, 0x17: R232. -/
def exec_rla (s : State) : Out := finish (cyc 0x17 s) (accRot .rla s)

/-- `RRA`, 0x1F: R233. -/
def exec_rra (s : State) : Out := finish (cyc 0x1F s) (accRot .rra s)

/-- `RLC B`, 0xCB 0x00: R235. -/
def exec_rlc_b (s : State) : Out := finish (cycCb 0x00 s) (rot .rlc (.reg .b) s)

/-- `RLC C`, 0xCB 0x01: R235. -/
def exec_rlc_c (s : State) : Out := finish (cycCb 0x01 s) (rot .rlc (.reg .c) s)

/-- `RLC D`, 0xCB 0x02: R235. -/
def exec_rlc_d (s : State) : Out := finish (cycCb 0x02 s) (rot .rlc (.reg .d) s)

/-- `RLC E`, 0xCB 0x03: R235. -/
def exec_rlc_e (s : State) : Out := finish (cycCb 0x03 s) (rot .rlc (.reg .e) s)

/-- `RLC H`, 0xCB 0x04: R235. -/
def exec_rlc_h (s : State) : Out := finish (cycCb 0x04 s) (rot .rlc (.reg .h) s)

/-- `RLC L`, 0xCB 0x05: R235. -/
def exec_rlc_l (s : State) : Out := finish (cycCb 0x05 s) (rot .rlc (.reg .l) s)

/-- `RLC (HL)`, 0xCB 0x06: R235. -/
def exec_rlc_atHL (s : State) : Out := finish (cycCb 0x06 s) (rot .rlc .atHL s)

/-- `RLC A`, 0xCB 0x07: R235. -/
def exec_rlc_a (s : State) : Out := finish (cycCb 0x07 s) (rot .rlc (.reg .a) s)

/-- `RRC B`, 0xCB 0x08: R236. -/
def exec_rrc_b (s : State) : Out := finish (cycCb 0x08 s) (rot .rrc (.reg .b) s)

/-- `RRC C`, 0xCB 0x09: R236. -/
def exec_rrc_c (s : State) : Out := finish (cycCb 0x09 s) (rot .rrc (.reg .c) s)

/-- `RRC D`, 0xCB 0x0A: R236. -/
def exec_rrc_d (s : State) : Out := finish (cycCb 0x0A s) (rot .rrc (.reg .d) s)

/-- `RRC E`, 0xCB 0x0B: R236. -/
def exec_rrc_e (s : State) : Out := finish (cycCb 0x0B s) (rot .rrc (.reg .e) s)

/-- `RRC H`, 0xCB 0x0C: R236. -/
def exec_rrc_h (s : State) : Out := finish (cycCb 0x0C s) (rot .rrc (.reg .h) s)

/-- `RRC L`, 0xCB 0x0D: R236. -/
def exec_rrc_l (s : State) : Out := finish (cycCb 0x0D s) (rot .rrc (.reg .l) s)

/-- `RRC (HL)`, 0xCB 0x0E: R236. -/
def exec_rrc_atHL (s : State) : Out := finish (cycCb 0x0E s) (rot .rrc .atHL s)

/-- `RRC A`, 0xCB 0x0F: R236. -/
def exec_rrc_a (s : State) : Out := finish (cycCb 0x0F s) (rot .rrc (.reg .a) s)

/-- `RL B`, 0xCB 0x10: R237. -/
def exec_rl_b (s : State) : Out := finish (cycCb 0x10 s) (rot .rl (.reg .b) s)

/-- `RL C`, 0xCB 0x11: R237. -/
def exec_rl_c (s : State) : Out := finish (cycCb 0x11 s) (rot .rl (.reg .c) s)

/-- `RL D`, 0xCB 0x12: R237. -/
def exec_rl_d (s : State) : Out := finish (cycCb 0x12 s) (rot .rl (.reg .d) s)

/-- `RL E`, 0xCB 0x13: R237. -/
def exec_rl_e (s : State) : Out := finish (cycCb 0x13 s) (rot .rl (.reg .e) s)

/-- `RL H`, 0xCB 0x14: R237. -/
def exec_rl_h (s : State) : Out := finish (cycCb 0x14 s) (rot .rl (.reg .h) s)

/-- `RL L`, 0xCB 0x15: R237. -/
def exec_rl_l (s : State) : Out := finish (cycCb 0x15 s) (rot .rl (.reg .l) s)

/-- `RL (HL)`, 0xCB 0x16: R237. -/
def exec_rl_atHL (s : State) : Out := finish (cycCb 0x16 s) (rot .rl .atHL s)

/-- `RL A`, 0xCB 0x17: R237. -/
def exec_rl_a (s : State) : Out := finish (cycCb 0x17 s) (rot .rl (.reg .a) s)

/-- `RR B`, 0xCB 0x18: R238. -/
def exec_rr_b (s : State) : Out := finish (cycCb 0x18 s) (rot .rr (.reg .b) s)

/-- `RR C`, 0xCB 0x19: R238. -/
def exec_rr_c (s : State) : Out := finish (cycCb 0x19 s) (rot .rr (.reg .c) s)

/-- `RR D`, 0xCB 0x1A: R238. -/
def exec_rr_d (s : State) : Out := finish (cycCb 0x1A s) (rot .rr (.reg .d) s)

/-- `RR E`, 0xCB 0x1B: R238. -/
def exec_rr_e (s : State) : Out := finish (cycCb 0x1B s) (rot .rr (.reg .e) s)

/-- `RR H`, 0xCB 0x1C: R238. -/
def exec_rr_h (s : State) : Out := finish (cycCb 0x1C s) (rot .rr (.reg .h) s)

/-- `RR L`, 0xCB 0x1D: R238. -/
def exec_rr_l (s : State) : Out := finish (cycCb 0x1D s) (rot .rr (.reg .l) s)

/-- `RR (HL)`, 0xCB 0x1E: R238. -/
def exec_rr_atHL (s : State) : Out := finish (cycCb 0x1E s) (rot .rr .atHL s)

/-- `RR A`, 0xCB 0x1F: R238. -/
def exec_rr_a (s : State) : Out := finish (cycCb 0x1F s) (rot .rr (.reg .a) s)

/-- `SLA B`, 0xCB 0x20: R239. -/
def exec_sla_b (s : State) : Out := finish (cycCb 0x20 s) (rot .sla (.reg .b) s)

/-- `SLA C`, 0xCB 0x21: R239. -/
def exec_sla_c (s : State) : Out := finish (cycCb 0x21 s) (rot .sla (.reg .c) s)

/-- `SLA D`, 0xCB 0x22: R239. -/
def exec_sla_d (s : State) : Out := finish (cycCb 0x22 s) (rot .sla (.reg .d) s)

/-- `SLA E`, 0xCB 0x23: R239. -/
def exec_sla_e (s : State) : Out := finish (cycCb 0x23 s) (rot .sla (.reg .e) s)

/-- `SLA H`, 0xCB 0x24: R239. -/
def exec_sla_h (s : State) : Out := finish (cycCb 0x24 s) (rot .sla (.reg .h) s)

/-- `SLA L`, 0xCB 0x25: R239. -/
def exec_sla_l (s : State) : Out := finish (cycCb 0x25 s) (rot .sla (.reg .l) s)

/-- `SLA (HL)`, 0xCB 0x26: R239. -/
def exec_sla_atHL (s : State) : Out := finish (cycCb 0x26 s) (rot .sla .atHL s)

/-- `SLA A`, 0xCB 0x27: R239. -/
def exec_sla_a (s : State) : Out := finish (cycCb 0x27 s) (rot .sla (.reg .a) s)

/-- `SRA B`, 0xCB 0x28: R240. -/
def exec_sra_b (s : State) : Out := finish (cycCb 0x28 s) (rot .sra (.reg .b) s)

/-- `SRA C`, 0xCB 0x29: R240. -/
def exec_sra_c (s : State) : Out := finish (cycCb 0x29 s) (rot .sra (.reg .c) s)

/-- `SRA D`, 0xCB 0x2A: R240. -/
def exec_sra_d (s : State) : Out := finish (cycCb 0x2A s) (rot .sra (.reg .d) s)

/-- `SRA E`, 0xCB 0x2B: R240. -/
def exec_sra_e (s : State) : Out := finish (cycCb 0x2B s) (rot .sra (.reg .e) s)

/-- `SRA H`, 0xCB 0x2C: R240. -/
def exec_sra_h (s : State) : Out := finish (cycCb 0x2C s) (rot .sra (.reg .h) s)

/-- `SRA L`, 0xCB 0x2D: R240. -/
def exec_sra_l (s : State) : Out := finish (cycCb 0x2D s) (rot .sra (.reg .l) s)

/-- `SRA (HL)`, 0xCB 0x2E: R240. -/
def exec_sra_atHL (s : State) : Out := finish (cycCb 0x2E s) (rot .sra .atHL s)

/-- `SRA A`, 0xCB 0x2F: R240. -/
def exec_sra_a (s : State) : Out := finish (cycCb 0x2F s) (rot .sra (.reg .a) s)

/-- `SWAP B`, 0xCB 0x30: R241. -/
def exec_swap_b (s : State) : Out := finish (cycCb 0x30 s) (rot .swap (.reg .b) s)

/-- `SWAP C`, 0xCB 0x31: R241. -/
def exec_swap_c (s : State) : Out := finish (cycCb 0x31 s) (rot .swap (.reg .c) s)

/-- `SWAP D`, 0xCB 0x32: R241. -/
def exec_swap_d (s : State) : Out := finish (cycCb 0x32 s) (rot .swap (.reg .d) s)

/-- `SWAP E`, 0xCB 0x33: R241. -/
def exec_swap_e (s : State) : Out := finish (cycCb 0x33 s) (rot .swap (.reg .e) s)

/-- `SWAP H`, 0xCB 0x34: R241. -/
def exec_swap_h (s : State) : Out := finish (cycCb 0x34 s) (rot .swap (.reg .h) s)

/-- `SWAP L`, 0xCB 0x35: R241. -/
def exec_swap_l (s : State) : Out := finish (cycCb 0x35 s) (rot .swap (.reg .l) s)

/-- `SWAP (HL)`, 0xCB 0x36: R241. -/
def exec_swap_atHL (s : State) : Out := finish (cycCb 0x36 s) (rot .swap .atHL s)

/-- `SWAP A`, 0xCB 0x37: R241. -/
def exec_swap_a (s : State) : Out := finish (cycCb 0x37 s) (rot .swap (.reg .a) s)

/-- `SRL B`, 0xCB 0x38: R242. -/
def exec_srl_b (s : State) : Out := finish (cycCb 0x38 s) (rot .srl (.reg .b) s)

/-- `SRL C`, 0xCB 0x39: R242. -/
def exec_srl_c (s : State) : Out := finish (cycCb 0x39 s) (rot .srl (.reg .c) s)

/-- `SRL D`, 0xCB 0x3A: R242. -/
def exec_srl_d (s : State) : Out := finish (cycCb 0x3A s) (rot .srl (.reg .d) s)

/-- `SRL E`, 0xCB 0x3B: R242. -/
def exec_srl_e (s : State) : Out := finish (cycCb 0x3B s) (rot .srl (.reg .e) s)

/-- `SRL H`, 0xCB 0x3C: R242. -/
def exec_srl_h (s : State) : Out := finish (cycCb 0x3C s) (rot .srl (.reg .h) s)

/-- `SRL L`, 0xCB 0x3D: R242. -/
def exec_srl_l (s : State) : Out := finish (cycCb 0x3D s) (rot .srl (.reg .l) s)

/-- `SRL (HL)`, 0xCB 0x3E: R242. -/
def exec_srl_atHL (s : State) : Out := finish (cycCb 0x3E s) (rot .srl .atHL s)

/-- `SRL A`, 0xCB 0x3F: R242. -/
def exec_srl_a (s : State) : Out := finish (cycCb 0x3F s) (rot .srl (.reg .a) s)

/-- `BIT 0,B`, 0xCB 0x40: R243. -/
def exec_bit_0_b (s : State) : Out := finish (cycCb 0x40 s) (bitTest .n0 (.reg .b) s)

/-- `BIT 0,C`, 0xCB 0x41: R243. -/
def exec_bit_0_c (s : State) : Out := finish (cycCb 0x41 s) (bitTest .n0 (.reg .c) s)

/-- `BIT 0,D`, 0xCB 0x42: R243. -/
def exec_bit_0_d (s : State) : Out := finish (cycCb 0x42 s) (bitTest .n0 (.reg .d) s)

/-- `BIT 0,E`, 0xCB 0x43: R243. -/
def exec_bit_0_e (s : State) : Out := finish (cycCb 0x43 s) (bitTest .n0 (.reg .e) s)

/-- `BIT 0,H`, 0xCB 0x44: R243. -/
def exec_bit_0_h (s : State) : Out := finish (cycCb 0x44 s) (bitTest .n0 (.reg .h) s)

/-- `BIT 0,L`, 0xCB 0x45: R243. -/
def exec_bit_0_l (s : State) : Out := finish (cycCb 0x45 s) (bitTest .n0 (.reg .l) s)

/-- `BIT 0,(HL)`, 0xCB 0x46: R243. -/
def exec_bit_0_atHL (s : State) : Out := finish (cycCb 0x46 s) (bitTest .n0 .atHL s)

/-- `BIT 0,A`, 0xCB 0x47: R243. -/
def exec_bit_0_a (s : State) : Out := finish (cycCb 0x47 s) (bitTest .n0 (.reg .a) s)

/-- `BIT 1,B`, 0xCB 0x48: R243. -/
def exec_bit_1_b (s : State) : Out := finish (cycCb 0x48 s) (bitTest .n1 (.reg .b) s)

/-- `BIT 1,C`, 0xCB 0x49: R243. -/
def exec_bit_1_c (s : State) : Out := finish (cycCb 0x49 s) (bitTest .n1 (.reg .c) s)

/-- `BIT 1,D`, 0xCB 0x4A: R243. -/
def exec_bit_1_d (s : State) : Out := finish (cycCb 0x4A s) (bitTest .n1 (.reg .d) s)

/-- `BIT 1,E`, 0xCB 0x4B: R243. -/
def exec_bit_1_e (s : State) : Out := finish (cycCb 0x4B s) (bitTest .n1 (.reg .e) s)

/-- `BIT 1,H`, 0xCB 0x4C: R243. -/
def exec_bit_1_h (s : State) : Out := finish (cycCb 0x4C s) (bitTest .n1 (.reg .h) s)

/-- `BIT 1,L`, 0xCB 0x4D: R243. -/
def exec_bit_1_l (s : State) : Out := finish (cycCb 0x4D s) (bitTest .n1 (.reg .l) s)

/-- `BIT 1,(HL)`, 0xCB 0x4E: R243. -/
def exec_bit_1_atHL (s : State) : Out := finish (cycCb 0x4E s) (bitTest .n1 .atHL s)

/-- `BIT 1,A`, 0xCB 0x4F: R243. -/
def exec_bit_1_a (s : State) : Out := finish (cycCb 0x4F s) (bitTest .n1 (.reg .a) s)

/-- `BIT 2,B`, 0xCB 0x50: R243. -/
def exec_bit_2_b (s : State) : Out := finish (cycCb 0x50 s) (bitTest .n2 (.reg .b) s)

/-- `BIT 2,C`, 0xCB 0x51: R243. -/
def exec_bit_2_c (s : State) : Out := finish (cycCb 0x51 s) (bitTest .n2 (.reg .c) s)

/-- `BIT 2,D`, 0xCB 0x52: R243. -/
def exec_bit_2_d (s : State) : Out := finish (cycCb 0x52 s) (bitTest .n2 (.reg .d) s)

/-- `BIT 2,E`, 0xCB 0x53: R243. -/
def exec_bit_2_e (s : State) : Out := finish (cycCb 0x53 s) (bitTest .n2 (.reg .e) s)

/-- `BIT 2,H`, 0xCB 0x54: R243. -/
def exec_bit_2_h (s : State) : Out := finish (cycCb 0x54 s) (bitTest .n2 (.reg .h) s)

/-- `BIT 2,L`, 0xCB 0x55: R243. -/
def exec_bit_2_l (s : State) : Out := finish (cycCb 0x55 s) (bitTest .n2 (.reg .l) s)

/-- `BIT 2,(HL)`, 0xCB 0x56: R243. -/
def exec_bit_2_atHL (s : State) : Out := finish (cycCb 0x56 s) (bitTest .n2 .atHL s)

/-- `BIT 2,A`, 0xCB 0x57: R243. -/
def exec_bit_2_a (s : State) : Out := finish (cycCb 0x57 s) (bitTest .n2 (.reg .a) s)

/-- `BIT 3,B`, 0xCB 0x58: R243. -/
def exec_bit_3_b (s : State) : Out := finish (cycCb 0x58 s) (bitTest .n3 (.reg .b) s)

/-- `BIT 3,C`, 0xCB 0x59: R243. -/
def exec_bit_3_c (s : State) : Out := finish (cycCb 0x59 s) (bitTest .n3 (.reg .c) s)

/-- `BIT 3,D`, 0xCB 0x5A: R243. -/
def exec_bit_3_d (s : State) : Out := finish (cycCb 0x5A s) (bitTest .n3 (.reg .d) s)

/-- `BIT 3,E`, 0xCB 0x5B: R243. -/
def exec_bit_3_e (s : State) : Out := finish (cycCb 0x5B s) (bitTest .n3 (.reg .e) s)

/-- `BIT 3,H`, 0xCB 0x5C: R243. -/
def exec_bit_3_h (s : State) : Out := finish (cycCb 0x5C s) (bitTest .n3 (.reg .h) s)

/-- `BIT 3,L`, 0xCB 0x5D: R243. -/
def exec_bit_3_l (s : State) : Out := finish (cycCb 0x5D s) (bitTest .n3 (.reg .l) s)

/-- `BIT 3,(HL)`, 0xCB 0x5E: R243. -/
def exec_bit_3_atHL (s : State) : Out := finish (cycCb 0x5E s) (bitTest .n3 .atHL s)

/-- `BIT 3,A`, 0xCB 0x5F: R243. -/
def exec_bit_3_a (s : State) : Out := finish (cycCb 0x5F s) (bitTest .n3 (.reg .a) s)

/-- `BIT 4,B`, 0xCB 0x60: R243. -/
def exec_bit_4_b (s : State) : Out := finish (cycCb 0x60 s) (bitTest .n4 (.reg .b) s)

/-- `BIT 4,C`, 0xCB 0x61: R243. -/
def exec_bit_4_c (s : State) : Out := finish (cycCb 0x61 s) (bitTest .n4 (.reg .c) s)

/-- `BIT 4,D`, 0xCB 0x62: R243. -/
def exec_bit_4_d (s : State) : Out := finish (cycCb 0x62 s) (bitTest .n4 (.reg .d) s)

/-- `BIT 4,E`, 0xCB 0x63: R243. -/
def exec_bit_4_e (s : State) : Out := finish (cycCb 0x63 s) (bitTest .n4 (.reg .e) s)

/-- `BIT 4,H`, 0xCB 0x64: R243. -/
def exec_bit_4_h (s : State) : Out := finish (cycCb 0x64 s) (bitTest .n4 (.reg .h) s)

/-- `BIT 4,L`, 0xCB 0x65: R243. -/
def exec_bit_4_l (s : State) : Out := finish (cycCb 0x65 s) (bitTest .n4 (.reg .l) s)

/-- `BIT 4,(HL)`, 0xCB 0x66: R243. -/
def exec_bit_4_atHL (s : State) : Out := finish (cycCb 0x66 s) (bitTest .n4 .atHL s)

/-- `BIT 4,A`, 0xCB 0x67: R243. -/
def exec_bit_4_a (s : State) : Out := finish (cycCb 0x67 s) (bitTest .n4 (.reg .a) s)

/-- `BIT 5,B`, 0xCB 0x68: R243. -/
def exec_bit_5_b (s : State) : Out := finish (cycCb 0x68 s) (bitTest .n5 (.reg .b) s)

/-- `BIT 5,C`, 0xCB 0x69: R243. -/
def exec_bit_5_c (s : State) : Out := finish (cycCb 0x69 s) (bitTest .n5 (.reg .c) s)

/-- `BIT 5,D`, 0xCB 0x6A: R243. -/
def exec_bit_5_d (s : State) : Out := finish (cycCb 0x6A s) (bitTest .n5 (.reg .d) s)

/-- `BIT 5,E`, 0xCB 0x6B: R243. -/
def exec_bit_5_e (s : State) : Out := finish (cycCb 0x6B s) (bitTest .n5 (.reg .e) s)

/-- `BIT 5,H`, 0xCB 0x6C: R243. -/
def exec_bit_5_h (s : State) : Out := finish (cycCb 0x6C s) (bitTest .n5 (.reg .h) s)

/-- `BIT 5,L`, 0xCB 0x6D: R243. -/
def exec_bit_5_l (s : State) : Out := finish (cycCb 0x6D s) (bitTest .n5 (.reg .l) s)

/-- `BIT 5,(HL)`, 0xCB 0x6E: R243. -/
def exec_bit_5_atHL (s : State) : Out := finish (cycCb 0x6E s) (bitTest .n5 .atHL s)

/-- `BIT 5,A`, 0xCB 0x6F: R243. -/
def exec_bit_5_a (s : State) : Out := finish (cycCb 0x6F s) (bitTest .n5 (.reg .a) s)

/-- `BIT 6,B`, 0xCB 0x70: R243. -/
def exec_bit_6_b (s : State) : Out := finish (cycCb 0x70 s) (bitTest .n6 (.reg .b) s)

/-- `BIT 6,C`, 0xCB 0x71: R243. -/
def exec_bit_6_c (s : State) : Out := finish (cycCb 0x71 s) (bitTest .n6 (.reg .c) s)

/-- `BIT 6,D`, 0xCB 0x72: R243. -/
def exec_bit_6_d (s : State) : Out := finish (cycCb 0x72 s) (bitTest .n6 (.reg .d) s)

/-- `BIT 6,E`, 0xCB 0x73: R243. -/
def exec_bit_6_e (s : State) : Out := finish (cycCb 0x73 s) (bitTest .n6 (.reg .e) s)

/-- `BIT 6,H`, 0xCB 0x74: R243. -/
def exec_bit_6_h (s : State) : Out := finish (cycCb 0x74 s) (bitTest .n6 (.reg .h) s)

/-- `BIT 6,L`, 0xCB 0x75: R243. -/
def exec_bit_6_l (s : State) : Out := finish (cycCb 0x75 s) (bitTest .n6 (.reg .l) s)

/-- `BIT 6,(HL)`, 0xCB 0x76: R243. -/
def exec_bit_6_atHL (s : State) : Out := finish (cycCb 0x76 s) (bitTest .n6 .atHL s)

/-- `BIT 6,A`, 0xCB 0x77: R243. -/
def exec_bit_6_a (s : State) : Out := finish (cycCb 0x77 s) (bitTest .n6 (.reg .a) s)

/-- `BIT 7,B`, 0xCB 0x78: R243. -/
def exec_bit_7_b (s : State) : Out := finish (cycCb 0x78 s) (bitTest .n7 (.reg .b) s)

/-- `BIT 7,C`, 0xCB 0x79: R243. -/
def exec_bit_7_c (s : State) : Out := finish (cycCb 0x79 s) (bitTest .n7 (.reg .c) s)

/-- `BIT 7,D`, 0xCB 0x7A: R243. -/
def exec_bit_7_d (s : State) : Out := finish (cycCb 0x7A s) (bitTest .n7 (.reg .d) s)

/-- `BIT 7,E`, 0xCB 0x7B: R243. -/
def exec_bit_7_e (s : State) : Out := finish (cycCb 0x7B s) (bitTest .n7 (.reg .e) s)

/-- `BIT 7,H`, 0xCB 0x7C: R243. -/
def exec_bit_7_h (s : State) : Out := finish (cycCb 0x7C s) (bitTest .n7 (.reg .h) s)

/-- `BIT 7,L`, 0xCB 0x7D: R243. -/
def exec_bit_7_l (s : State) : Out := finish (cycCb 0x7D s) (bitTest .n7 (.reg .l) s)

/-- `BIT 7,(HL)`, 0xCB 0x7E: R243. -/
def exec_bit_7_atHL (s : State) : Out := finish (cycCb 0x7E s) (bitTest .n7 .atHL s)

/-- `BIT 7,A`, 0xCB 0x7F: R243. -/
def exec_bit_7_a (s : State) : Out := finish (cycCb 0x7F s) (bitTest .n7 (.reg .a) s)

/-- `RES 0,B`, 0xCB 0x80: R244. -/
def exec_res_0_b (s : State) : Out := finish (cycCb 0x80 s) (resBit .n0 (.reg .b) s)

/-- `RES 0,C`, 0xCB 0x81: R244. -/
def exec_res_0_c (s : State) : Out := finish (cycCb 0x81 s) (resBit .n0 (.reg .c) s)

/-- `RES 0,D`, 0xCB 0x82: R244. -/
def exec_res_0_d (s : State) : Out := finish (cycCb 0x82 s) (resBit .n0 (.reg .d) s)

/-- `RES 0,E`, 0xCB 0x83: R244. -/
def exec_res_0_e (s : State) : Out := finish (cycCb 0x83 s) (resBit .n0 (.reg .e) s)

/-- `RES 0,H`, 0xCB 0x84: R244. -/
def exec_res_0_h (s : State) : Out := finish (cycCb 0x84 s) (resBit .n0 (.reg .h) s)

/-- `RES 0,L`, 0xCB 0x85: R244. -/
def exec_res_0_l (s : State) : Out := finish (cycCb 0x85 s) (resBit .n0 (.reg .l) s)

/-- `RES 0,(HL)`, 0xCB 0x86: R244. -/
def exec_res_0_atHL (s : State) : Out := finish (cycCb 0x86 s) (resBit .n0 .atHL s)

/-- `RES 0,A`, 0xCB 0x87: R244. -/
def exec_res_0_a (s : State) : Out := finish (cycCb 0x87 s) (resBit .n0 (.reg .a) s)

/-- `RES 1,B`, 0xCB 0x88: R244. -/
def exec_res_1_b (s : State) : Out := finish (cycCb 0x88 s) (resBit .n1 (.reg .b) s)

/-- `RES 1,C`, 0xCB 0x89: R244. -/
def exec_res_1_c (s : State) : Out := finish (cycCb 0x89 s) (resBit .n1 (.reg .c) s)

/-- `RES 1,D`, 0xCB 0x8A: R244. -/
def exec_res_1_d (s : State) : Out := finish (cycCb 0x8A s) (resBit .n1 (.reg .d) s)

/-- `RES 1,E`, 0xCB 0x8B: R244. -/
def exec_res_1_e (s : State) : Out := finish (cycCb 0x8B s) (resBit .n1 (.reg .e) s)

/-- `RES 1,H`, 0xCB 0x8C: R244. -/
def exec_res_1_h (s : State) : Out := finish (cycCb 0x8C s) (resBit .n1 (.reg .h) s)

/-- `RES 1,L`, 0xCB 0x8D: R244. -/
def exec_res_1_l (s : State) : Out := finish (cycCb 0x8D s) (resBit .n1 (.reg .l) s)

/-- `RES 1,(HL)`, 0xCB 0x8E: R244. -/
def exec_res_1_atHL (s : State) : Out := finish (cycCb 0x8E s) (resBit .n1 .atHL s)

/-- `RES 1,A`, 0xCB 0x8F: R244. -/
def exec_res_1_a (s : State) : Out := finish (cycCb 0x8F s) (resBit .n1 (.reg .a) s)

/-- `RES 2,B`, 0xCB 0x90: R244. -/
def exec_res_2_b (s : State) : Out := finish (cycCb 0x90 s) (resBit .n2 (.reg .b) s)

/-- `RES 2,C`, 0xCB 0x91: R244. -/
def exec_res_2_c (s : State) : Out := finish (cycCb 0x91 s) (resBit .n2 (.reg .c) s)

/-- `RES 2,D`, 0xCB 0x92: R244. -/
def exec_res_2_d (s : State) : Out := finish (cycCb 0x92 s) (resBit .n2 (.reg .d) s)

/-- `RES 2,E`, 0xCB 0x93: R244. -/
def exec_res_2_e (s : State) : Out := finish (cycCb 0x93 s) (resBit .n2 (.reg .e) s)

/-- `RES 2,H`, 0xCB 0x94: R244. -/
def exec_res_2_h (s : State) : Out := finish (cycCb 0x94 s) (resBit .n2 (.reg .h) s)

/-- `RES 2,L`, 0xCB 0x95: R244. -/
def exec_res_2_l (s : State) : Out := finish (cycCb 0x95 s) (resBit .n2 (.reg .l) s)

/-- `RES 2,(HL)`, 0xCB 0x96: R244. -/
def exec_res_2_atHL (s : State) : Out := finish (cycCb 0x96 s) (resBit .n2 .atHL s)

/-- `RES 2,A`, 0xCB 0x97: R244. -/
def exec_res_2_a (s : State) : Out := finish (cycCb 0x97 s) (resBit .n2 (.reg .a) s)

/-- `RES 3,B`, 0xCB 0x98: R244. -/
def exec_res_3_b (s : State) : Out := finish (cycCb 0x98 s) (resBit .n3 (.reg .b) s)

/-- `RES 3,C`, 0xCB 0x99: R244. -/
def exec_res_3_c (s : State) : Out := finish (cycCb 0x99 s) (resBit .n3 (.reg .c) s)

/-- `RES 3,D`, 0xCB 0x9A: R244. -/
def exec_res_3_d (s : State) : Out := finish (cycCb 0x9A s) (resBit .n3 (.reg .d) s)

/-- `RES 3,E`, 0xCB 0x9B: R244. -/
def exec_res_3_e (s : State) : Out := finish (cycCb 0x9B s) (resBit .n3 (.reg .e) s)

/-- `RES 3,H`, 0xCB 0x9C: R244. -/
def exec_res_3_h (s : State) : Out := finish (cycCb 0x9C s) (resBit .n3 (.reg .h) s)

/-- `RES 3,L`, 0xCB 0x9D: R244. -/
def exec_res_3_l (s : State) : Out := finish (cycCb 0x9D s) (resBit .n3 (.reg .l) s)

/-- `RES 3,(HL)`, 0xCB 0x9E: R244. -/
def exec_res_3_atHL (s : State) : Out := finish (cycCb 0x9E s) (resBit .n3 .atHL s)

/-- `RES 3,A`, 0xCB 0x9F: R244. -/
def exec_res_3_a (s : State) : Out := finish (cycCb 0x9F s) (resBit .n3 (.reg .a) s)

/-- `RES 4,B`, 0xCB 0xA0: R244. -/
def exec_res_4_b (s : State) : Out := finish (cycCb 0xA0 s) (resBit .n4 (.reg .b) s)

/-- `RES 4,C`, 0xCB 0xA1: R244. -/
def exec_res_4_c (s : State) : Out := finish (cycCb 0xA1 s) (resBit .n4 (.reg .c) s)

/-- `RES 4,D`, 0xCB 0xA2: R244. -/
def exec_res_4_d (s : State) : Out := finish (cycCb 0xA2 s) (resBit .n4 (.reg .d) s)

/-- `RES 4,E`, 0xCB 0xA3: R244. -/
def exec_res_4_e (s : State) : Out := finish (cycCb 0xA3 s) (resBit .n4 (.reg .e) s)

/-- `RES 4,H`, 0xCB 0xA4: R244. -/
def exec_res_4_h (s : State) : Out := finish (cycCb 0xA4 s) (resBit .n4 (.reg .h) s)

/-- `RES 4,L`, 0xCB 0xA5: R244. -/
def exec_res_4_l (s : State) : Out := finish (cycCb 0xA5 s) (resBit .n4 (.reg .l) s)

/-- `RES 4,(HL)`, 0xCB 0xA6: R244. -/
def exec_res_4_atHL (s : State) : Out := finish (cycCb 0xA6 s) (resBit .n4 .atHL s)

/-- `RES 4,A`, 0xCB 0xA7: R244. -/
def exec_res_4_a (s : State) : Out := finish (cycCb 0xA7 s) (resBit .n4 (.reg .a) s)

/-- `RES 5,B`, 0xCB 0xA8: R244. -/
def exec_res_5_b (s : State) : Out := finish (cycCb 0xA8 s) (resBit .n5 (.reg .b) s)

/-- `RES 5,C`, 0xCB 0xA9: R244. -/
def exec_res_5_c (s : State) : Out := finish (cycCb 0xA9 s) (resBit .n5 (.reg .c) s)

/-- `RES 5,D`, 0xCB 0xAA: R244. -/
def exec_res_5_d (s : State) : Out := finish (cycCb 0xAA s) (resBit .n5 (.reg .d) s)

/-- `RES 5,E`, 0xCB 0xAB: R244. -/
def exec_res_5_e (s : State) : Out := finish (cycCb 0xAB s) (resBit .n5 (.reg .e) s)

/-- `RES 5,H`, 0xCB 0xAC: R244. -/
def exec_res_5_h (s : State) : Out := finish (cycCb 0xAC s) (resBit .n5 (.reg .h) s)

/-- `RES 5,L`, 0xCB 0xAD: R244. -/
def exec_res_5_l (s : State) : Out := finish (cycCb 0xAD s) (resBit .n5 (.reg .l) s)

/-- `RES 5,(HL)`, 0xCB 0xAE: R244. -/
def exec_res_5_atHL (s : State) : Out := finish (cycCb 0xAE s) (resBit .n5 .atHL s)

/-- `RES 5,A`, 0xCB 0xAF: R244. -/
def exec_res_5_a (s : State) : Out := finish (cycCb 0xAF s) (resBit .n5 (.reg .a) s)

/-- `RES 6,B`, 0xCB 0xB0: R244. -/
def exec_res_6_b (s : State) : Out := finish (cycCb 0xB0 s) (resBit .n6 (.reg .b) s)

/-- `RES 6,C`, 0xCB 0xB1: R244. -/
def exec_res_6_c (s : State) : Out := finish (cycCb 0xB1 s) (resBit .n6 (.reg .c) s)

/-- `RES 6,D`, 0xCB 0xB2: R244. -/
def exec_res_6_d (s : State) : Out := finish (cycCb 0xB2 s) (resBit .n6 (.reg .d) s)

/-- `RES 6,E`, 0xCB 0xB3: R244. -/
def exec_res_6_e (s : State) : Out := finish (cycCb 0xB3 s) (resBit .n6 (.reg .e) s)

/-- `RES 6,H`, 0xCB 0xB4: R244. -/
def exec_res_6_h (s : State) : Out := finish (cycCb 0xB4 s) (resBit .n6 (.reg .h) s)

/-- `RES 6,L`, 0xCB 0xB5: R244. -/
def exec_res_6_l (s : State) : Out := finish (cycCb 0xB5 s) (resBit .n6 (.reg .l) s)

/-- `RES 6,(HL)`, 0xCB 0xB6: R244. -/
def exec_res_6_atHL (s : State) : Out := finish (cycCb 0xB6 s) (resBit .n6 .atHL s)

/-- `RES 6,A`, 0xCB 0xB7: R244. -/
def exec_res_6_a (s : State) : Out := finish (cycCb 0xB7 s) (resBit .n6 (.reg .a) s)

/-- `RES 7,B`, 0xCB 0xB8: R244. -/
def exec_res_7_b (s : State) : Out := finish (cycCb 0xB8 s) (resBit .n7 (.reg .b) s)

/-- `RES 7,C`, 0xCB 0xB9: R244. -/
def exec_res_7_c (s : State) : Out := finish (cycCb 0xB9 s) (resBit .n7 (.reg .c) s)

/-- `RES 7,D`, 0xCB 0xBA: R244. -/
def exec_res_7_d (s : State) : Out := finish (cycCb 0xBA s) (resBit .n7 (.reg .d) s)

/-- `RES 7,E`, 0xCB 0xBB: R244. -/
def exec_res_7_e (s : State) : Out := finish (cycCb 0xBB s) (resBit .n7 (.reg .e) s)

/-- `RES 7,H`, 0xCB 0xBC: R244. -/
def exec_res_7_h (s : State) : Out := finish (cycCb 0xBC s) (resBit .n7 (.reg .h) s)

/-- `RES 7,L`, 0xCB 0xBD: R244. -/
def exec_res_7_l (s : State) : Out := finish (cycCb 0xBD s) (resBit .n7 (.reg .l) s)

/-- `RES 7,(HL)`, 0xCB 0xBE: R244. -/
def exec_res_7_atHL (s : State) : Out := finish (cycCb 0xBE s) (resBit .n7 .atHL s)

/-- `RES 7,A`, 0xCB 0xBF: R244. -/
def exec_res_7_a (s : State) : Out := finish (cycCb 0xBF s) (resBit .n7 (.reg .a) s)

/-- `SET 0,B`, 0xCB 0xC0: R245. -/
def exec_set_0_b (s : State) : Out := finish (cycCb 0xC0 s) (setBit .n0 (.reg .b) s)

/-- `SET 0,C`, 0xCB 0xC1: R245. -/
def exec_set_0_c (s : State) : Out := finish (cycCb 0xC1 s) (setBit .n0 (.reg .c) s)

/-- `SET 0,D`, 0xCB 0xC2: R245. -/
def exec_set_0_d (s : State) : Out := finish (cycCb 0xC2 s) (setBit .n0 (.reg .d) s)

/-- `SET 0,E`, 0xCB 0xC3: R245. -/
def exec_set_0_e (s : State) : Out := finish (cycCb 0xC3 s) (setBit .n0 (.reg .e) s)

/-- `SET 0,H`, 0xCB 0xC4: R245. -/
def exec_set_0_h (s : State) : Out := finish (cycCb 0xC4 s) (setBit .n0 (.reg .h) s)

/-- `SET 0,L`, 0xCB 0xC5: R245. -/
def exec_set_0_l (s : State) : Out := finish (cycCb 0xC5 s) (setBit .n0 (.reg .l) s)

/-- `SET 0,(HL)`, 0xCB 0xC6: R245. -/
def exec_set_0_atHL (s : State) : Out := finish (cycCb 0xC6 s) (setBit .n0 .atHL s)

/-- `SET 0,A`, 0xCB 0xC7: R245. -/
def exec_set_0_a (s : State) : Out := finish (cycCb 0xC7 s) (setBit .n0 (.reg .a) s)

/-- `SET 1,B`, 0xCB 0xC8: R245. -/
def exec_set_1_b (s : State) : Out := finish (cycCb 0xC8 s) (setBit .n1 (.reg .b) s)

/-- `SET 1,C`, 0xCB 0xC9: R245. -/
def exec_set_1_c (s : State) : Out := finish (cycCb 0xC9 s) (setBit .n1 (.reg .c) s)

/-- `SET 1,D`, 0xCB 0xCA: R245. -/
def exec_set_1_d (s : State) : Out := finish (cycCb 0xCA s) (setBit .n1 (.reg .d) s)

/-- `SET 1,E`, 0xCB 0xCB: R245. -/
def exec_set_1_e (s : State) : Out := finish (cycCb 0xCB s) (setBit .n1 (.reg .e) s)

/-- `SET 1,H`, 0xCB 0xCC: R245. -/
def exec_set_1_h (s : State) : Out := finish (cycCb 0xCC s) (setBit .n1 (.reg .h) s)

/-- `SET 1,L`, 0xCB 0xCD: R245. -/
def exec_set_1_l (s : State) : Out := finish (cycCb 0xCD s) (setBit .n1 (.reg .l) s)

/-- `SET 1,(HL)`, 0xCB 0xCE: R245. -/
def exec_set_1_atHL (s : State) : Out := finish (cycCb 0xCE s) (setBit .n1 .atHL s)

/-- `SET 1,A`, 0xCB 0xCF: R245. -/
def exec_set_1_a (s : State) : Out := finish (cycCb 0xCF s) (setBit .n1 (.reg .a) s)

/-- `SET 2,B`, 0xCB 0xD0: R245. -/
def exec_set_2_b (s : State) : Out := finish (cycCb 0xD0 s) (setBit .n2 (.reg .b) s)

/-- `SET 2,C`, 0xCB 0xD1: R245. -/
def exec_set_2_c (s : State) : Out := finish (cycCb 0xD1 s) (setBit .n2 (.reg .c) s)

/-- `SET 2,D`, 0xCB 0xD2: R245. -/
def exec_set_2_d (s : State) : Out := finish (cycCb 0xD2 s) (setBit .n2 (.reg .d) s)

/-- `SET 2,E`, 0xCB 0xD3: R245. -/
def exec_set_2_e (s : State) : Out := finish (cycCb 0xD3 s) (setBit .n2 (.reg .e) s)

/-- `SET 2,H`, 0xCB 0xD4: R245. -/
def exec_set_2_h (s : State) : Out := finish (cycCb 0xD4 s) (setBit .n2 (.reg .h) s)

/-- `SET 2,L`, 0xCB 0xD5: R245. -/
def exec_set_2_l (s : State) : Out := finish (cycCb 0xD5 s) (setBit .n2 (.reg .l) s)

/-- `SET 2,(HL)`, 0xCB 0xD6: R245. -/
def exec_set_2_atHL (s : State) : Out := finish (cycCb 0xD6 s) (setBit .n2 .atHL s)

/-- `SET 2,A`, 0xCB 0xD7: R245. -/
def exec_set_2_a (s : State) : Out := finish (cycCb 0xD7 s) (setBit .n2 (.reg .a) s)

/-- `SET 3,B`, 0xCB 0xD8: R245. -/
def exec_set_3_b (s : State) : Out := finish (cycCb 0xD8 s) (setBit .n3 (.reg .b) s)

/-- `SET 3,C`, 0xCB 0xD9: R245. -/
def exec_set_3_c (s : State) : Out := finish (cycCb 0xD9 s) (setBit .n3 (.reg .c) s)

/-- `SET 3,D`, 0xCB 0xDA: R245. -/
def exec_set_3_d (s : State) : Out := finish (cycCb 0xDA s) (setBit .n3 (.reg .d) s)

/-- `SET 3,E`, 0xCB 0xDB: R245. -/
def exec_set_3_e (s : State) : Out := finish (cycCb 0xDB s) (setBit .n3 (.reg .e) s)

/-- `SET 3,H`, 0xCB 0xDC: R245. -/
def exec_set_3_h (s : State) : Out := finish (cycCb 0xDC s) (setBit .n3 (.reg .h) s)

/-- `SET 3,L`, 0xCB 0xDD: R245. -/
def exec_set_3_l (s : State) : Out := finish (cycCb 0xDD s) (setBit .n3 (.reg .l) s)

/-- `SET 3,(HL)`, 0xCB 0xDE: R245. -/
def exec_set_3_atHL (s : State) : Out := finish (cycCb 0xDE s) (setBit .n3 .atHL s)

/-- `SET 3,A`, 0xCB 0xDF: R245. -/
def exec_set_3_a (s : State) : Out := finish (cycCb 0xDF s) (setBit .n3 (.reg .a) s)

/-- `SET 4,B`, 0xCB 0xE0: R245. -/
def exec_set_4_b (s : State) : Out := finish (cycCb 0xE0 s) (setBit .n4 (.reg .b) s)

/-- `SET 4,C`, 0xCB 0xE1: R245. -/
def exec_set_4_c (s : State) : Out := finish (cycCb 0xE1 s) (setBit .n4 (.reg .c) s)

/-- `SET 4,D`, 0xCB 0xE2: R245. -/
def exec_set_4_d (s : State) : Out := finish (cycCb 0xE2 s) (setBit .n4 (.reg .d) s)

/-- `SET 4,E`, 0xCB 0xE3: R245. -/
def exec_set_4_e (s : State) : Out := finish (cycCb 0xE3 s) (setBit .n4 (.reg .e) s)

/-- `SET 4,H`, 0xCB 0xE4: R245. -/
def exec_set_4_h (s : State) : Out := finish (cycCb 0xE4 s) (setBit .n4 (.reg .h) s)

/-- `SET 4,L`, 0xCB 0xE5: R245. -/
def exec_set_4_l (s : State) : Out := finish (cycCb 0xE5 s) (setBit .n4 (.reg .l) s)

/-- `SET 4,(HL)`, 0xCB 0xE6: R245. -/
def exec_set_4_atHL (s : State) : Out := finish (cycCb 0xE6 s) (setBit .n4 .atHL s)

/-- `SET 4,A`, 0xCB 0xE7: R245. -/
def exec_set_4_a (s : State) : Out := finish (cycCb 0xE7 s) (setBit .n4 (.reg .a) s)

/-- `SET 5,B`, 0xCB 0xE8: R245. -/
def exec_set_5_b (s : State) : Out := finish (cycCb 0xE8 s) (setBit .n5 (.reg .b) s)

/-- `SET 5,C`, 0xCB 0xE9: R245. -/
def exec_set_5_c (s : State) : Out := finish (cycCb 0xE9 s) (setBit .n5 (.reg .c) s)

/-- `SET 5,D`, 0xCB 0xEA: R245. -/
def exec_set_5_d (s : State) : Out := finish (cycCb 0xEA s) (setBit .n5 (.reg .d) s)

/-- `SET 5,E`, 0xCB 0xEB: R245. -/
def exec_set_5_e (s : State) : Out := finish (cycCb 0xEB s) (setBit .n5 (.reg .e) s)

/-- `SET 5,H`, 0xCB 0xEC: R245. -/
def exec_set_5_h (s : State) : Out := finish (cycCb 0xEC s) (setBit .n5 (.reg .h) s)

/-- `SET 5,L`, 0xCB 0xED: R245. -/
def exec_set_5_l (s : State) : Out := finish (cycCb 0xED s) (setBit .n5 (.reg .l) s)

/-- `SET 5,(HL)`, 0xCB 0xEE: R245. -/
def exec_set_5_atHL (s : State) : Out := finish (cycCb 0xEE s) (setBit .n5 .atHL s)

/-- `SET 5,A`, 0xCB 0xEF: R245. -/
def exec_set_5_a (s : State) : Out := finish (cycCb 0xEF s) (setBit .n5 (.reg .a) s)

/-- `SET 6,B`, 0xCB 0xF0: R245. -/
def exec_set_6_b (s : State) : Out := finish (cycCb 0xF0 s) (setBit .n6 (.reg .b) s)

/-- `SET 6,C`, 0xCB 0xF1: R245. -/
def exec_set_6_c (s : State) : Out := finish (cycCb 0xF1 s) (setBit .n6 (.reg .c) s)

/-- `SET 6,D`, 0xCB 0xF2: R245. -/
def exec_set_6_d (s : State) : Out := finish (cycCb 0xF2 s) (setBit .n6 (.reg .d) s)

/-- `SET 6,E`, 0xCB 0xF3: R245. -/
def exec_set_6_e (s : State) : Out := finish (cycCb 0xF3 s) (setBit .n6 (.reg .e) s)

/-- `SET 6,H`, 0xCB 0xF4: R245. -/
def exec_set_6_h (s : State) : Out := finish (cycCb 0xF4 s) (setBit .n6 (.reg .h) s)

/-- `SET 6,L`, 0xCB 0xF5: R245. -/
def exec_set_6_l (s : State) : Out := finish (cycCb 0xF5 s) (setBit .n6 (.reg .l) s)

/-- `SET 6,(HL)`, 0xCB 0xF6: R245. -/
def exec_set_6_atHL (s : State) : Out := finish (cycCb 0xF6 s) (setBit .n6 .atHL s)

/-- `SET 6,A`, 0xCB 0xF7: R245. -/
def exec_set_6_a (s : State) : Out := finish (cycCb 0xF7 s) (setBit .n6 (.reg .a) s)

/-- `SET 7,B`, 0xCB 0xF8: R245. -/
def exec_set_7_b (s : State) : Out := finish (cycCb 0xF8 s) (setBit .n7 (.reg .b) s)

/-- `SET 7,C`, 0xCB 0xF9: R245. -/
def exec_set_7_c (s : State) : Out := finish (cycCb 0xF9 s) (setBit .n7 (.reg .c) s)

/-- `SET 7,D`, 0xCB 0xFA: R245. -/
def exec_set_7_d (s : State) : Out := finish (cycCb 0xFA s) (setBit .n7 (.reg .d) s)

/-- `SET 7,E`, 0xCB 0xFB: R245. -/
def exec_set_7_e (s : State) : Out := finish (cycCb 0xFB s) (setBit .n7 (.reg .e) s)

/-- `SET 7,H`, 0xCB 0xFC: R245. -/
def exec_set_7_h (s : State) : Out := finish (cycCb 0xFC s) (setBit .n7 (.reg .h) s)

/-- `SET 7,L`, 0xCB 0xFD: R245. -/
def exec_set_7_l (s : State) : Out := finish (cycCb 0xFD s) (setBit .n7 (.reg .l) s)

/-- `SET 7,(HL)`, 0xCB 0xFE: R245. -/
def exec_set_7_atHL (s : State) : Out := finish (cycCb 0xFE s) (setBit .n7 .atHL s)

/-- `SET 7,A`, 0xCB 0xFF: R245. -/
def exec_set_7_a (s : State) : Out := finish (cycCb 0xFF s) (setBit .n7 (.reg .a) s)

end Sys2Proof.Machine
end

