-- ==== Sys2Proof/Machine/System.lean ====
section
/-! DEFINITION. System instructions, the prefix row and the undefined bytes (46_system.md R280 to R286). -/

namespace Sys2Proof.Machine

/-- `NOP`: "only the fetch has advanced `PC`" (R280). -/
def noOp (s : State) : Except Fault State := .ok s

/-- `Halted <- 1` (R281). -/
def haltOp (s : State) : Except Fault State := .ok { s with cpu := { s.cpu with halted := true } }

/-- `Fetch8(); Stopped <- 1`: the padding byte has been fetched and is ignored (R282). -/
def stopOp (_pad : Byte) (s : State) : Except Fault State := .ok { s with cpu := { s.cpu with stopped := true } }

/-- `EI`: `ime_pending <- Enable`, or `IME <- 1` with `IME_DEFER` = immediate (R283). -/
def eiOp (s : State) : Except Fault State :=
  match s.params.imeDefer with
  | .deferred => .ok { s with cpu := { s.cpu with imePending := .enable } }
  | .immediate => .ok { s with ints := { s.ints with ime := true } }

/-- `DI`: `ime_pending <- Disable`, or `IME <- 0` with `IME_DEFER` = immediate (R284). -/
def diOp (s : State) : Except Fault State :=
  match s.params.imeDefer with
  | .deferred => .ok { s with cpu := { s.cpu with imePending := .disable } }
  | .immediate => .ok { s with ints := { s.ints with ime := false } }

/-- An undefined base opcode: `fault UndefinedOpcode(op, PC - 1)`, or with `UNDEF_OP` = nop a one-byte instruction of 4 cycles that changes nothing
but `PC` (R286). -/
def undefinedOp (u : Undef) (s : State) : Out :=
  match s.params.undefOp with
  | .fault => .fault (.undefinedOpcode (undefByte u) (s.cpu.pc - 1))
  | .nop => finish 4 (noOp s)

/-! ## The table's rows -/

/-- `NOP`, 0x00: R280. -/
def exec_nop (s : State) : Out := finish (cyc 0x00 s) (noOp s)

/-- `STOP`, 0x10: R282. -/
def exec_stop (pad : Byte) (s : State) : Out := finish (cyc 0x10 s) (stopOp pad s)

/-- `HALT`, 0x76: R281. -/
def exec_halt (s : State) : Out := finish (cyc 0x76 s) (haltOp s)

/-- `PREFIX CB`, 0xCB: R285. -/
def exec_prefix_cb (op2 : Byte) (s : State) : Out := extendedOp op2 s

/-- `UNDEFINED_D3`, 0xD3: R286. -/
def exec_undefined_d3 (s : State) : Out := undefinedOp .d3 s

/-- `UNDEFINED_DB`, 0xDB: R286. -/
def exec_undefined_db (s : State) : Out := undefinedOp .db s

/-- `UNDEFINED_DD`, 0xDD: R286. -/
def exec_undefined_dd (s : State) : Out := undefinedOp .dd s

/-- `UNDEFINED_E3`, 0xE3: R286. -/
def exec_undefined_e3 (s : State) : Out := undefinedOp .e3 s

/-- `UNDEFINED_E4`, 0xE4: R286. -/
def exec_undefined_e4 (s : State) : Out := undefinedOp .e4 s

/-- `UNDEFINED_EB`, 0xEB: R286. -/
def exec_undefined_eb (s : State) : Out := undefinedOp .eb s

/-- `UNDEFINED_EC`, 0xEC: R286. -/
def exec_undefined_ec (s : State) : Out := undefinedOp .ec s

/-- `UNDEFINED_ED`, 0xED: R286. -/
def exec_undefined_ed (s : State) : Out := undefinedOp .ed s

/-- `DI`, 0xF3: R284. -/
def exec_di (s : State) : Out := finish (cyc 0xF3 s) (diOp s)

/-- `UNDEFINED_F4`, 0xF4: R286. -/
def exec_undefined_f4 (s : State) : Out := undefinedOp .f4 s

/-- `EI`, 0xFB: R283. -/
def exec_ei (s : State) : Out := finish (cyc 0xFB s) (eiOp s)

/-- `UNDEFINED_FC`, 0xFC: R286. -/
def exec_undefined_fc (s : State) : Out := undefinedOp .fc s

/-- `UNDEFINED_FD`, 0xFD: R286. -/
def exec_undefined_fd (s : State) : Out := undefinedOp .fd s

end Sys2Proof.Machine
end

