-- ==== Sys2Proof/Machine/Load.lean ====
section
/-! DEFINITION. Loading a cartridge image: the checks and the variant selection made once, before the first step (20_memory.md R71, R72;
70_reset_and_hazards.md R380, R383). -/

namespace Sys2Proof.Machine

/-- Why an image gives no machine: "aborts startup before any instruction executes" (70_reset_and_hazards.md R383). -/
inductive LoadError where
  /-- shorter than 0x148 bytes, so that its selector cannot be read (D30) -/
  | tooShort
  /-- an unrecognized selector byte -/
  | unknownSelector (v : Byte)
  /-- too large for its kind's address space -/
  | tooLarge
deriving DecidableEq, Repr

/-- The selector byte `ROM[0x147]`. -/
def romSelector (image : List Byte) : Byte := image.getD 0x147 0

/-- The variant a selector gives, in its state of reset (R72; 10_state.md R45). -/
def mbcOfSelector (r : Reset) (v : Byte) : Option Mbc :=
  if v = 0x00 then some .romOnly
  else if v = 0x01 ∨ v = 0x02 ∨ v = 0x03 then some (.mbc1 r.mbc1State)
  else if v = 0x05 ∨ v = 0x06 then some (.mbc2 r.mbc2State)
  else none

/-- The largest image of a kind: 0x8000, 0x200000 or 0x40000 bytes (R72; D30). -/
def maxImageLength (m : Mbc) : Nat :=
  match m with
  | .romOnly => 0x8000
  | .mbc1 _ => 0x200000
  | .mbc2 _ => 0x40000

/-- The title, "bytes [0x134,0x142)" without its trailing NULs; it has no effect on any rule (R71; log 34). -/
def romTitle (image : List Byte) : List Byte :=
  (((image.drop 0x134).take 0x0E).reverse.dropWhile (fun v => decide (v = 0))).reverse

/-- Reset, "the construction of the initial state from the two inputs `ROM` and `RESET`" (R380): the checks of R383, the variant of R72, every piece of
state as R45 says. The other parameters of R7 are the argument `p`. -/
def State.loadWith (r : Reset) (p : Params) (image : List Byte) : Except LoadError State :=
  if image.length < 0x148 then .error .tooShort
  else
    match mbcOfSelector r (romSelector image) with
    | none => .error (.unknownSelector (romSelector image))
    | some m =>
      if maxImageLength m < image.length then .error .tooLarge
      else .ok (State.resetFrom r p { image := { len := image.length, cells := Memory.ofBytes image 0 }, mbc := m })

/-- Reset with an image, by the defaults of the parameters. -/
def State.load (image : List Byte) : Except LoadError State := State.loadWith Reset.defaults defaultParams image

end Sys2Proof.Machine
end

