-- ==== Sys2Proof/Machine/Step.lean ====
section
/-! DEFINITION. One machine step (60_exceptions.md R310). -/

namespace Sys2Proof.Machine

/-- "Machine.step()": the host's acts before it (R312), `CPU.execute()` (30_encoding.md R101), then timer, pixel unit and interrupt controller. -/
def step (s : State) : Host.Outcome State Fault Refusal :=
  let s1 := latchIme (hostPhase s)
  if isIdle s1 then devicesOut (idle s1)
  else
    match fetch s1 with
    | .ok (i, s2) => afterExec (exec i s2)
    | .error f => .fault f

/-- The state with an instruction of spec/opcode_table.json stored where `step` fetches its next instruction (log 17). -/
def State.withFetchWord (s : State) (nbits w : Nat) : State := placeInstr (tableWordBytes nbits w) s

end Sys2Proof.Machine
end

