-- ==== Sys2Proof/Machine/Frame.lean ====
section
/-! DEFINITION. The orchestrator's frame loop (60_exceptions.md R311). It is not hardware: it fixes only when the host may act (log 36). -/

namespace Sys2Proof.Machine

/-- Machine steps until the cycles spent reach the budget, `fuel` of them at most (R311). DESIGN CHOICE (log 36): the cycles spent are the counts of
`execute()`; the `CYC_INT` cycles of a dispatch, of which the spec does not say whether they count, do not. -/
def frameSteps (fuel spent : Nat) (s : State) : Out :=
  match fuel with
  | 0 => .next s
  | fuel + 1 =>
    if s.params.frameBudget ≤ spent then .next s
    else
      match step s with
      | .next t => frameSteps fuel (spent + t.cycles) t
      | .fault f => .fault f
      | .refused r => .refused r

/-- One frame, of `FRAME_BUDGET` cycles (00_scope.md R7). A figure is "constrained only to be positive" (30_encoding.md R113), so as many steps as the
budget has cycles are enough. -/
def frame (s : State) : Out := frameSteps s.params.frameBudget 0 s

end Sys2Proof.Machine
end

