-- ==== Sys2Proof/Safety.lean ====
section
/-! DEFINITION. The terms claims are stated in: which instruction may write what (10_state.md R20 to R31; 20_memory.md R62), which reads a
store may change (20_memory.md R53 to R59, R74 to R85), and the invariants of a state (10_state.md R22, R33, R38, R39, R41, R42, R46;
20_memory.md R54; 60_exceptions.md R330). -/

namespace Sys2Proof.Machine

/-! ## What an instruction may write -/

/-- The general registers a pair is made of. -/
def pairRegs (p : Pair) : List Reg8 :=
  match p with
  | .bc => [.b, .c]
  | .de => [.d, .e]
  | .hl => [.h, .l]
  | .sp => []

/-- The general registers a pair of `PUSH` and `POP` is made of; `F` is no general register here. -/
def stackPairRegs (p : StackPair) : List Reg8 :=
  match p with
  | .bc => [.b, .c]
  | .de => [.d, .e]
  | .hl => [.h, .l]
  | .af => [.a]

/-- The general register an operand `r[i]` is, if it is one. -/
def locRegs (v : Loc8) : List Reg8 :=
  match v with
  | .reg r => [r]
  | .atHL => []

/-- The general registers a pointer form steps (R145 to R148). -/
def pointerRegs (p : Pointer) : List Reg8 :=
  match p with
  | .bc => []
  | .de => []
  | .hlInc => [.h, .l]
  | .hlDec => [.h, .l]

/-- The general registers an extended instruction may write. -/
def extendedDest (f : Form) : List Reg8 :=
  match f with
  | .rot _ v => locRegs v
  | .res _ v => locRegs v
  | .set _ v => locRegs v
  | _ => []

/-- The general registers (A, B, C, D, E, H, L) an instruction may write: its destination and what its addressing steps. -/
def destRegs (f : Form) : List Reg8 :=
  match f with
  | .ldReg dst _ | .ldFromHL dst => [dst]
  | .ldN v _ | .inc v | .dec v => locRegs v
  | .ldAtPtrA p => pointerRegs p
  | .ldAAtPtr p => .a :: pointerRegs p
  | .ldPairNn p _ | .incPair p | .decPair p => pairRegs p
  | .addHlPair _ | .ldHlSpE _ => [.h, .l]
  | .ldAAtNn _ | .ldhAAtC | .ldhAAtN _ | .accRot _ | .daa | .cpl => [.a]
  | .alu op _ | .aluN op _ => if aluWrites op then [.a] else []
  | .pop p => stackPairRegs p
  | .rot o v => extendedDest (.rot o v)
  | .res b v => extendedDest (.res b v)
  | .set b v => extendedDest (.set b v)
  | .prefixCb op2 => extendedDest (decodeExtended op2)
  | .nop | .ldAtNnSp _ | .stop _ | .jr _ | .jrCc _ _ | .scf | .ccf | .ldToHL _ | .halt | .retCc _ | .ldhAtNA _ | .addSpE _ | .ret | .reti
  | .jpHl | .ldSpHl | .jpCc _ _ | .ldhAtCA | .ldAtNnA _ | .jpNn _ | .di | .ei | .callCc _ _ | .push _ | .callNn _ | .rst _ | .undefined _
  | .bit _ _ => []

/-- Whether an extended instruction writes a flag: all but `RES` and `SET` (R23). -/
def extendedFlags (f : Form) : Bool :=
  match f with
  | .rot _ _ => true
  | .bit _ _ => true
  | _ => false

/-- The instructions that write flags (10_state.md R23; D15, log 31). -/
def writesFlags (f : Form) : Bool :=
  match f with
  | .alu _ _ | .aluN _ _ | .inc _ | .dec _ | .daa | .cpl | .scf | .ccf | .addHlPair _ | .addSpE _ | .ldHlSpE _ | .accRot _ => true
  | .pop p => decide (p = .af)
  | .rot o v => extendedFlags (.rot o v)
  | .bit b v => extendedFlags (.bit b v)
  | .prefixCb op2 => extendedFlags (decodeExtended op2)
  | .nop | .ldAtNnSp _ | .stop _ | .jr _ | .jrCc _ _ | .ldPairNn _ _ | .ldAtPtrA _ | .ldAAtPtr _ | .incPair _ | .decPair _ | .ldN _ _ | .ldReg _ _
  | .ldFromHL _ | .ldToHL _ | .halt | .retCc _ | .ldhAtNA _ | .ldhAAtN _ | .ret | .reti | .jpHl | .ldSpHl | .jpCc _ _ | .ldhAtCA | .ldAtNnA _
  | .ldhAAtC | .ldAAtNn _ | .jpNn _ | .di | .ei | .callCc _ _ | .push _ | .callNn _ | .rst _ | .undefined _ | .res _ _ | .set _ _ => false

/-- The instructions that write `SP` (10_state.md R25). -/
def writesSp (f : Form) : Bool :=
  match f with
  | .ldPairNn p _ | .incPair p | .decPair p => decide (p = .sp)
  | .ldSpHl | .addSpE _ | .push _ | .pop _ | .callNn _ | .callCc _ _ | .rst _ | .ret | .retCc _ | .reti => true
  | .nop | .ldAtNnSp _ | .stop _ | .jr _ | .jrCc _ _ | .addHlPair _ | .ldAtPtrA _ | .ldAAtPtr _ | .inc _ | .dec _ | .ldN _ _ | .accRot _ | .daa
  | .cpl | .scf | .ccf | .ldReg _ _ | .ldFromHL _ | .ldToHL _ | .halt | .alu _ _ | .ldhAtNA _ | .ldhAAtN _ | .ldHlSpE _ | .jpHl | .jpCc _ _
  | .ldhAtCA | .ldAtNnA _ | .ldhAAtC | .ldAAtNn _ | .jpNn _ | .prefixCb _ | .di | .ei | .aluN _ _ | .undefined _ | .rot _ _ | .bit _ _ | .res _ _
  | .set _ _ => false

/-- The control-transfer instructions, which write `PC` (10_state.md R24). -/
def writesPc (f : Form) : Bool :=
  match f with
  | .jpNn _ | .jpCc _ _ | .jpHl | .jr _ | .jrCc _ _ | .callNn _ | .callCc _ _ | .ret | .retCc _ | .reti | .rst _ => true
  | .nop | .ldAtNnSp _ | .stop _ | .ldPairNn _ _ | .addHlPair _ | .ldAtPtrA _ | .ldAAtPtr _ | .incPair _ | .decPair _ | .inc _ | .dec _ | .ldN _ _
  | .accRot _ | .daa | .cpl | .scf | .ccf | .ldReg _ _ | .ldFromHL _ | .ldToHL _ | .halt | .alu _ _ | .ldhAtNA _ | .addSpE _ | .ldhAAtN _
  | .ldHlSpE _ | .pop _ | .ldSpHl | .ldhAtCA | .ldAtNnA _ | .ldhAAtC | .ldAAtNn _ | .prefixCb _ | .di | .ei | .push _ | .aluN _ _ | .undefined _
  | .rot _ _ | .bit _ _ | .res _ _ | .set _ _ => false

/-- The instructions through which software changes `IME` or its latch: `EI`, `DI`, `RETI` (10_state.md R28). -/
def writesIme (f : Form) : Bool :=
  match f with
  | .ei | .di | .reti => true
  | .nop | .ldAtNnSp _ | .stop _ | .jr _ | .jrCc _ _ | .ldPairNn _ _ | .addHlPair _ | .ldAtPtrA _ | .ldAAtPtr _ | .incPair _ | .decPair _ | .inc _
  | .dec _ | .ldN _ _ | .accRot _ | .daa | .cpl | .scf | .ccf | .ldReg _ _ | .ldFromHL _ | .ldToHL _ | .halt | .alu _ _ | .retCc _ | .ldhAtNA _
  | .addSpE _ | .ldhAAtN _ | .ldHlSpE _ | .pop _ | .ret | .jpHl | .ldSpHl | .jpCc _ _ | .ldhAtCA | .ldAtNnA _ | .ldhAAtC | .ldAAtNn _ | .jpNn _
  | .prefixCb _ | .callCc _ _ | .push _ | .callNn _ | .aluN _ _ | .rst _ | .undefined _ | .rot _ _ | .bit _ _ | .res _ _ | .set _ _ => false

/-- The address of an operand `r[i]` in memory. -/
def locTargets (v : Loc8) (s : State) : List Word :=
  match v with
  | .reg _ => []
  | .atHL => [getHL s]

/-- The two bytes a push stores to (00_scope.md R12). -/
def pushTargets (s : State) : List Word := [s.cpu.sp - 1, s.cpu.sp - 2]

/-- The bytes an extended instruction stores to. -/
def extendedTargets (f : Form) (s : State) : List Word :=
  match f with
  | .rot _ v => locTargets v s
  | .res _ v => locTargets v s
  | .set _ v => locTargets v s
  | _ => []

/-- The addresses of the bytes an instruction stores, in their order, as its meaning computes them. -/
def storeTargets (f : Form) (s : State) : List Word :=
  match f with
  | .ldToHL _ => [getHL s]
  | .ldN v _ | .inc v | .dec v => locTargets v s
  | .ldAtPtrA p => [pointerAddr p s]
  | .ldAtNnA nn => [nn]
  | .ldhAtCA => [highPage s.cpu.c]
  | .ldhAtNA n => [highPage n]
  | .ldAtNnSp nn => [nn, nn + 1]
  | .push _ | .callNn _ | .rst _ => pushTargets s
  | .callCc cc _ => if cond cc s then pushTargets s else []
  | .rot o v => extendedTargets (.rot o v) s
  | .res b v => extendedTargets (.res b v) s
  | .set b v => extendedTargets (.set b v) s
  | .prefixCb op2 => extendedTargets (decodeExtended op2) s
  | .nop | .stop _ | .jr _ | .jrCc _ _ | .ldPairNn _ _ | .addHlPair _ | .ldAAtPtr _ | .incPair _ | .decPair _ | .accRot _ | .daa | .cpl | .scf
  | .ccf | .ldReg _ _ | .ldFromHL _ | .halt | .alu _ _ | .retCc _ | .addSpE _ | .ldhAAtN _ | .ldHlSpE _ | .pop _ | .ret | .reti | .jpHl | .ldSpHl
  | .jpCc _ _ | .ldhAAtC | .ldAAtNn _ | .jpNn _ | .di | .ei | .aluN _ _ | .undefined _ | .bit _ _ => []

/-! ## Which reads a store may change -/

/-- Whether a bus write to `a` may change what a bus read of `b` returns: bank control changes the windows its register selects (R74 to R85), a
write to work RAM or echo RAM its mirror too (R54), the DMA register all of OAM (R57), a restricted address nothing (R55), any other write
the byte itself. The spec's choices among these rows: no mirror from 0xDE00 to 0xDFFF is D21, the `DMA` register read back D22 (log 33), `LY` alone
D23 (log 24), MBC1's mode register D25 and MBC2's registers D27 (log 28). -/
def mayChange (a b : Word) : Bool :=
  let x := a.toNat
  let y := b.toNat
  if x < 0x2000 then decide (0xA000 ≤ y ∧ y < 0xC000)
  else if x < 0x4000 then decide (0x4000 ≤ y ∧ y < 0x8000)
  else if x < 0x6000 then decide ((0x4000 ≤ y ∧ y < 0x8000) ∨ (0xA000 ≤ y ∧ y < 0xC000))
  else if x < 0x8000 then false
  else if 0xC000 ≤ x ∧ x < 0xDE00 then decide (y = x ∨ y = x + 0x2000)
  else if 0xE000 ≤ x ∧ x < 0xFE00 then decide (y = x ∨ y = x - 0x2000)
  else if 0xFEA0 ≤ x ∧ x ≤ 0xFEFF then false
  else if x = 0xFF46 then decide (y = x ∨ (0xFE00 ≤ y ∧ y < 0xFEA0))
  else decide (y = x)

/-! ## Invariants of a state -/

/-- "the low nibble of F is always zero" (10_state.md R22). -/
def FlagsOk (s : State) : Prop := s.cpu.f &&& 0x0F = 0

/-- `M` keeps its canonical form and lists only cells that are state (10_state.md R40; the form is log 15). -/
def MemOk (s : State) : Prop := s.mem.wf = true ∧ ∀ c ∈ s.mem, (isPlain c.1 || isWork c.1) = true

/-- "`M[a] = M[a + 0x2000]` holds for every `a` in 0xC000 to 0xDDFF at all times" (20_memory.md R54). -/
def EchoOk (s : State) : Prop := ∀ a, 0xC000 ≤ a → a ≤ 0xDDFF → s.mem.read a = s.mem.read (a + 0x2000)

/-- "`div_acc` stays below 256 between steps" (10_state.md R33). -/
def DividerOk (s : State) : Prop := s.timer.divAcc < 256

/-- MBC1: the bank is "never 0", nor one of 0x20, 0x40, 0x60; `CRAM` is canonical and holds 0x8000 bytes at most (10_state.md R41). -/
def Mbc1Ok (m : Mbc1) : Prop :=
  m.romBank ≠ 0x00 ∧ m.romBank ≠ 0x20 ∧ m.romBank ≠ 0x40 ∧ m.romBank ≠ 0x60 ∧ m.cram.wf = true ∧ ∀ c ∈ m.cram, c.1 < 0x8000

/-- MBC2: the bank is not 0; `CRAM` is canonical and holds 512 cells of four bits (10_state.md R42; 20_memory.md R82: the remap of
bank 0 is D27, log 28). -/
def Mbc2Ok (m : Mbc2) : Prop := m.romBank ≠ 0 ∧ m.cram.wf = true ∧ ∀ c ∈ m.cram, c.1 < 512 ∧ c.2.toNat < 16

/-- The bank controller's invariant (10_state.md R41, R42). -/
def MbcOk (m : Mbc) : Prop :=
  match m with
  | .romOnly => True
  | .mbc1 m => Mbc1Ok m
  | .mbc2 m => Mbc2Ok m

/-- The frame buffer is "144 rows by 160 columns" (10_state.md R39). -/
def FrameOk (fb : Frame) : Prop := fb.length = 144 ∧ ∀ row ∈ fb, row.length = 160

/-- The line: 0 to 143 outside `VBlank`, at most 153 in it (10_state.md R38; 60_exceptions.md R333, R334). -/
def LineOk (p : PixelUnit) : Prop := if p.mode = .vBlank then p.ly.toNat ≤ 153 else p.ly.toNat ≤ 143

/-- The pixel unit between steps: its line, its accumulator below the mode's threshold (60_exceptions.md R330), its frame buffer. -/
def PixelUnitOk (p : PixelUnit) : Prop := LineOk p ∧ p.acc < modeCycles p.mode ∧ FrameOk p.fb

/-- The cycle where the pixel unit stands in its frame: 456 a line, the mode's start, the cycles in the mode (60_exceptions.md R336). -/
def framePosition (p : PixelUnit) : Nat :=
  p.ly.toNat * 456 + p.acc +
    (match p.mode with
     | .oamSearch => 0
     | .pixelTransfer => 80
     | .hBlank => 252
     | .vBlank => 0)

/-- The cycle figures keep the bound of the tables: "every figure is a multiple of 4, between 4 and 24" (30_encoding.md R113); the pixel unit's rule
rests on it, "since `cycles <= 24 < 80`" (60_exceptions.md R330). -/
def FiguresOk (p : Params) : Prop :=
  (∀ f ∈ p.cyc, f.taken ≤ 24 ∧ f.notTaken ≤ 24) ∧ (∀ n ∈ p.cycCb, n ≤ 24) ∧ p.cycIdle ≤ 24 ∧ p.cycInt ≤ 24

/-- Every invariant together. -/
def Inv (s : State) : Prop :=
  FiguresOk s.params ∧ FlagsOk s ∧ MemOk s ∧ EchoOk s ∧ DividerOk s ∧ MbcOk s.cart.mbc ∧ PixelUnitOk s.ppu

/-! ## The words of the statements: the encoding's indexes (30_encoding.md R103 to R106) -/

/-- `i` of `r[i] = r` (R103). -/
def regIndex (r : Reg8) : Nat :=
  match r with
  | .b => 0
  | .c => 1
  | .d => 2
  | .e => 3
  | .h => 4
  | .l => 5
  | .a => 7

/-- `i` of an operand `r[i]`: 6 is `(HL)` (R103). -/
def locIndex (v : Loc8) : Nat :=
  match v with
  | .reg r => regIndex r
  | .atHL => 6

/-- `i` of `rp[i]` (R104). -/
def pairIndex (p : Pair) : Nat :=
  match p with
  | .bc => 0
  | .de => 1
  | .hl => 2
  | .sp => 3

/-- `i` of `rp2[i]` (R104). -/
def stackPairIndex (p : StackPair) : Nat :=
  match p with
  | .bc => 0
  | .de => 1
  | .hl => 2
  | .af => 3

/-- `op[5:4]` of a pointer form (R108). -/
def pointerIndex (p : Pointer) : Nat :=
  match p with
  | .bc => 0
  | .de => 1
  | .hlInc => 2
  | .hlDec => 3

/-- `cc` (R105). -/
def condIndex (cc : Cond) : Nat :=
  match cc with
  | .nz => 0
  | .z => 1
  | .nc => 2
  | .c => 3

/-- `a` of `alu[a]` (R106). -/
def aluIndex (op : AluOp) : Nat :=
  match op with
  | .add => 0
  | .adc => 1
  | .sub => 2
  | .sbc => 3
  | .and => 4
  | .xor => 5
  | .or => 6
  | .cp => 7

/-- `o` of `rot[o]` (R106). -/
def rotIndex (o : RotOp) : Nat :=
  match o with
  | .rlc => 0
  | .rrc => 1
  | .rl => 2
  | .rr => 3
  | .sla => 4
  | .sra => 5
  | .swap => 6
  | .srl => 7

/-- `y` of an accumulator rotate `00 yyy 111` (R108). -/
def accRotIndex (o : AccRot) : Nat :=
  match o with
  | .rlca => 0
  | .rrca => 1
  | .rla => 2
  | .rra => 3

/-- A one-byte encoding `00 000 000 + n`. -/
def opcode (n : Nat) : Byte := BitVec.ofNat 8 n

/-! ## The words of the statements: operands, the stack, results -/

/-- The second operand of an operation on A: `r[z]` or the immediate `n` (R106). -/
inductive Source where
  | loc (v : Loc8)
  | imm (n : Byte)
deriving DecidableEq, Repr

/-- The instruction `alu[a]` with that operand. -/
def Source.form (src : Source) (op : AluOp) : Form :=
  match src with
  | .loc v => .alu op v
  | .imm n => .aluN op n

/-- The operand's value. -/
def Source.value (src : Source) (s : State) : Except Fault Byte :=
  match src with
  | .loc v => readLoc v s
  | .imm n => .ok n

/-- One figure for a register operand, another for `(HL)`. -/
def byOperand (v : Loc8) (register atHL : Nat) : Nat :=
  match v with
  | .reg _ => register
  | .atHL => atHL

/-- The figure the parameters give an instruction, the taken one where there are two: `CYC_CB` of the second byte for one of the extended table,
`CYC` of the first byte for any other (30_encoding.md R101 steps 4 and 5, R113, R114). The opcode bytes are those of the tables. -/
def cost (f : Form) (s : State) : Nat :=
  match encode prefixByte f.toInstr with
  | [] => 0
  | [op] => cyc op s
  | op :: op2 :: _ => if op = prefixByte then cycCb op2 s else cyc op s

/-- The not-taken figure (30_encoding.md R113). -/
def costNotTaken (f : Form) (s : State) : Nat :=
  match encode prefixByte f.toInstr with
  | [] => 0
  | op :: _ => cycNotTaken op s

/-- `A` and `F` replaced. -/
def withAF (a f : Byte) (s : State) : State := { s with cpu := { s.cpu with a := a, f := f } }

/-- `F` replaced. -/
def withF (f : Byte) (s : State) : State := { s with cpu := { s.cpu with f := f } }

/-- `w` has been pushed: the high byte at `SP - 1`, then the low byte at `SP - 2`, then `SP` less 2 (00_scope.md R12). -/
def Pushed (w : Word) (s t : State) : Prop :=
  ∃ s1 s2, memWrite (s.cpu.sp - 1) (hiByte w) s = .ok s1 ∧ memWrite (s.cpu.sp - 2) (loByte w) s1 = .ok s2 ∧
    t = { s2 with cpu := { s.cpu with sp := s.cpu.sp - 2 } }

/-- `w` is what a pop finds: its low byte at `SP`, its high byte at `SP + 1` (00_scope.md R12). -/
def OnStack (w : Word) (s : State) : Prop :=
  memRead s.cpu.sp s = .ok (loByte w) ∧ memRead (s.cpu.sp + 1) s = .ok (hiByte w)

/-- `SP` two higher (00_scope.md R12). -/
def popped (s : State) : State := { s with cpu := { s.cpu with sp := s.cpu.sp + 2 } }

/-- The carry flag as a number. -/
def carryNat (s : State) : Nat := (cf s).toNat

/-- `Zf` of a byte result. -/
def isZero (n : Nat) : Bool := decide (n % 256 = 0)

/-- The result of `rot[o]` on the byte `v` with the old carry, as the pseudocode of 44_rotate_shift_bit.md R235 to R242 computes it. -/
def rotResult (o : RotOp) (v c : Nat) : Nat :=
  match o with
  | .rlc => v * 2 % 256 + v / 128
  | .rrc => v / 2 + v % 2 * 128
  | .rl => v * 2 % 256 + c
  | .rr => v / 2 + c * 128
  | .sla => v * 2 % 256
  | .sra => v / 2 + v / 128 * 128
  | .swap => v % 16 * 16 + v / 16
  | .srl => v / 2

/-- The carry `rot[o]` leaves: the bit shifted out, 0 for `SWAP` (44_rotate_shift_bit.md R235 to R242). -/
def rotCarry (o : RotOp) (v : Nat) : Bool :=
  match o with
  | .rlc | .rl | .sla => decide (v / 128 = 1)
  | .rrc | .rr | .sra | .srl => decide (v % 2 = 1)
  | .swap => false

/-- The offset into the image a cartridge reads for an address below 0x8000 (20_memory.md R73, R79, R84). -/
def imageOffset (m : Mbc) (a : Nat) : Nat :=
  if a < 0x4000 then a
  else
    match m with
    | .romOnly => a
    | .mbc1 b => (a - 0x4000) + b.romBank.toNat * 0x4000
    | .mbc2 b => (a - 0x4000) + b.romBank.toNat * 0x4000

/-- An address no line of R52 but its last, "otherwise `M[a]`", matches (20_memory.md R52). -/
def NoEarlierLine (a : Word) : Prop :=
  0x8000 ≤ a.toNat ∧ ¬ (0xA000 ≤ a.toNat ∧ a.toNat < 0xC000) ∧ ¬ (0xFEA0 ≤ a.toNat ∧ a.toNat ≤ 0xFEFF) ∧ a ≠ 0xFF00 ∧ a ≠ 0xFF04 ∧ a ≠ 0xFF05 ∧
    a ≠ 0xFF06 ∧ a ≠ 0xFF07 ∧ a ≠ 0xFF0F ∧ ¬ (0xFF40 ≤ a.toNat ∧ a.toNat ≤ 0xFF4B) ∧ a ≠ 0xFFFF

/-- The kind of a cartridge, `MBC_KIND` (00_scope.md R7). -/
inductive Kind where
  | romOnly
  | mbc1
  | mbc2
deriving DecidableEq, Repr

/-- The kind of a bank controller. -/
def kindOf (m : Mbc) : Kind :=
  match m with
  | .romOnly => .romOnly
  | .mbc1 _ => .mbc1
  | .mbc2 _ => .mbc2

/-- The state the next instruction is fetched in: after the host's acts and the latch (60_exceptions.md R311; 30_encoding.md R101 step 1). -/
def atFetch (s : State) : State := latchIme (hostPhase s)

/-- The instruction the next step runs, at the address in `PC`. -/
def Fetches (s : State) (bytes : List Byte) (i : Instr) : Prop :=
  bytes ≠ [] ∧ (∀ k, (h : k < bytes.length) → memRead (s.cpu.pc + BitVec.ofNat 16 k) s = .ok bytes[k]) ∧
    decode s.params.prefixByte bytes = .ok (i, [])

/-- What the timer, the pixel unit and the interrupt controller do after an `execute()` that reported `n` cycles (60_exceptions.md R310). -/
def afterCycles (n : Nat) (s : State) : Except Fault State := resolve (ppuExecute n (timerUpdate n s))

/-- The pixel sprite i paints at column x of a line, if any (60_exceptions.md R346). -/
def spriteShade (s : State) (line x i : Nat) : Option Shade :=
  let o := 0xFE00 + 4 * i
  let h : Int := if bit s.ppu.lcdc 2 then 16 else 8
  let y0 : Int := (s.mem.read o).toNat - 16
  let x0 : Int := (s.mem.read (o + 1)).toNat - 8
  let at_ := s.mem.read (o + 3)
  if y0 ≤ line ∧ (line : Int) < y0 + h ∧ x0 ≤ x ∧ (x : Int) < x0 + 8 then
    let row := if bit at_ 6 then (h - 1 - (line - y0)).toNat else ((line : Int) - y0).toNat
    let a := 0x8000 + (s.mem.read (o + 2)).toNat * 16 + row * 2
    let px := ((x : Int) - x0).toNat
    let b := if bit at_ 5 then px else 7 - px
    let c := (bit (s.mem.read (a + 1)) b).toNat * 2 + (bit (s.mem.read a) b).toNat
    if c = 0 then none else some (BitVec.ofNat 2 ((if bit at_ 4 then s.ppu.obp1 else s.ppu.obp0).toNat / 4 ^ c % 4))
  else none

end Sys2Proof.Machine
end

