-- ==== Sys2Proof/Certificates/Slice0/Obligations.lean ====
section
/-! DEFINITION. What this model promises, stated for the provers. R<n> is a numbered rule of spec/, D<n> a decision the spec marks as its own
(92_eei_decisions.md), log <n> a row of notes/assumptions/. Unless a docstring says otherwise the opcode map is D1 (log 1), and the cycle figures are
the parameters `CYC` and `CYC_CB`, through `Sys2Proof.Machine.cost` and `costNotTaken`: the statements hold whatever figures they give;
`DefaultFigures` states the defaults (D3, log 6). That a load, a store, a control transfer or a system instruction keeps every flag is D15 (log 31), that
address arithmetic wraps D41 (log 32). -/

section Statements

open Sys2Proof Sys2Proof.Machine

/-! ## Encoding -/

/-- Words written out from R108 to R111: one or more of each family. The opcode map is D1 (log 1), the byte order of `nn` D16 (log 32). -/
def Obligations.DecodeKnownWords : Prop :=
  decode 0xCB [0x00] = .ok (.nop, []) ∧ decode 0xCB [0x3E, 0x05] = .ok (.ld_a_n 0x05, []) ∧ decode 0xCB [0x3C] = .ok (.inc_a, []) ∧
  decode 0xCB [0x76] = .ok (.halt, []) ∧ decode 0xCB [0x78] = .ok (.ld_a_b, []) ∧ decode 0xCB [0xEA, 0x34, 0x12] = .ok (.ld_atNn_a 0x1234, []) ∧
  decode 0xCB [0x21, 0x00, 0xC0] = .ok (.ld_hl_nn 0xC000, []) ∧ decode 0xCB [0xF5] = .ok (.push_af, []) ∧ decode 0xCB [0x86] = .ok (.add_a_atHL, []) ∧
  decode 0xCB [0xDE, 0x01] = .ok (.sbc_a_n 0x01, []) ∧ decode 0xCB [0x39] = .ok (.add_hl_sp, []) ∧ decode 0xCB [0xE8, 0xFF] = .ok (.add_sp_e 0xFF, []) ∧
  decode 0xCB [0x1F] = .ok (.rra, []) ∧ decode 0xCB [0xCB, 0x37] = .ok (.swap_a, []) ∧ decode 0xCB [0xCB, 0x7C] = .ok (.bit_7_h, []) ∧
  decode 0xCB [0xCB, 0xFE] = .ok (.set_7_atHL, []) ∧ decode 0xCB [0x20, 0xFC] = .ok (.jr_nz_e 0xFC, []) ∧
  decode 0xCB [0xDC, 0x00, 0x02] = .ok (.call_c_nn 0x0200, []) ∧ decode 0xCB [0xEF] = .ok (.rst_28, []) ∧ decode 0xCB [0xD9] = .ok (.reti, []) ∧
  decode 0xCB [0x10, 0x00] = .ok (.stop 0x00, []) ∧ decode 0xCB [0xFB] = .ok (.ei, []) ∧ decode 0xCB [0xD3] = .ok (.undefined_d3, [])

/-- Decoding gives back every well-formed instruction from its bytes, whatever bytes follow: no operand bit is dropped. The well-formed instructions are
those with an encoding under the default `PREFIX`; with another prefix the same holds of every instruction that has an encoding (D2, log 16). -/
def Obligations.DecodeEncode : Prop :=
  (∀ i : Instr, WellFormed i = encodable 0xCB i) ∧
  ∀ (pfx : Byte) (i : Instr) (rest : List Byte), encodable pfx i = true → decode pfx (encode pfx i ++ rest) = .ok (i, rest)

/-- Every decoded instruction has an encoding, well-formed with the default `PREFIX`, and its encoding is the bytes it was decoded from, so each
instruction has one encoding; and only missing bytes stop the decoder: every first byte has a table entry (R118), and the length depends on the first
byte alone (R112). -/
def Obligations.DecodeInverse : Prop :=
  (∀ (pfx : Byte) (bytes rest : List Byte) (i : Instr), decode pfx bytes = .ok (i, rest) →
    encodable pfx i = true ∧ (pfx = 0xCB → WellFormed i = true) ∧ encode pfx i ++ rest = bytes) ∧
  ∀ (pfx : Byte) (bytes : List Byte),
    (∃ i rest, decode pfx bytes = .ok (i, rest)) ↔ ∃ op tail, bytes = op :: tail ∧ lengthOf pfx op ≤ tail.length + 1

/-- The encodings of the tables R109 and R111 follow the bit patterns of R108 and R110 with the operand indexes of R103 to R106 (D1, log 1;
the byte order of `nn` is D16, log 32). The prefix byte is the parameter `PREFIX` (D2). And the forms of
Machine/Form.lean, in which the statements below are written, are exactly the rows of the opcode table. -/
def Obligations.EncodingPatterns : Prop :=
  (∀ pfx : Byte,
   (∀ dst r, encode pfx (Form.ldReg dst r).toInstr = [opcode (0x40 + regIndex dst * 8 + regIndex r)]) ∧
   (∀ dst, encode pfx (Form.ldFromHL dst).toInstr = [opcode (0x46 + regIndex dst * 8)]) ∧
   (∀ r, encode pfx (Form.ldToHL r).toInstr = [opcode (0x70 + regIndex r)]) ∧
   (∀ v n, encode pfx (Form.ldN v n).toInstr = [opcode (0x06 + locIndex v * 8), n]) ∧
   (∀ p, encode pfx (Form.ldAtPtrA p).toInstr = [opcode (0x02 + pointerIndex p * 16)]) ∧
   (∀ p, encode pfx (Form.ldAAtPtr p).toInstr = [opcode (0x0A + pointerIndex p * 16)]) ∧
   (∀ p nn, encode pfx (Form.ldPairNn p nn).toInstr = [opcode (0x01 + pairIndex p * 16), loByte nn, hiByte nn]) ∧
   (∀ p, encode pfx (Form.addHlPair p).toInstr = [opcode (0x09 + pairIndex p * 16)]) ∧
   (∀ p, encode pfx (Form.incPair p).toInstr = [opcode (0x03 + pairIndex p * 16)]) ∧
   (∀ p, encode pfx (Form.decPair p).toInstr = [opcode (0x0B + pairIndex p * 16)]) ∧
   (∀ v, encode pfx (Form.inc v).toInstr = [opcode (0x04 + locIndex v * 8)]) ∧
   (∀ v, encode pfx (Form.dec v).toInstr = [opcode (0x05 + locIndex v * 8)]) ∧
   (∀ o, encode pfx (Form.accRot o).toInstr = [opcode (0x07 + accRotIndex o * 8)]) ∧
   (∀ op v, encode pfx (Form.alu op v).toInstr = [opcode (0x80 + aluIndex op * 8 + locIndex v)]) ∧
   (∀ op n, encode pfx (Form.aluN op n).toInstr = [opcode (0xC6 + aluIndex op * 8), n]) ∧
   (∀ cc e, encode pfx (Form.jrCc cc e).toInstr = [opcode (0x20 + condIndex cc * 8), e]) ∧
   (∀ cc nn, encode pfx (Form.jpCc cc nn).toInstr = [opcode (0xC2 + condIndex cc * 8), loByte nn, hiByte nn]) ∧
   (∀ cc nn, encode pfx (Form.callCc cc nn).toInstr = [opcode (0xC4 + condIndex cc * 8), loByte nn, hiByte nn]) ∧
   (∀ cc, encode pfx (Form.retCc cc).toInstr = [opcode (0xC0 + condIndex cc * 8)]) ∧
   (∀ p, encode pfx (Form.push p).toInstr = [opcode (0xC5 + stackPairIndex p * 16)]) ∧
   (∀ p, encode pfx (Form.pop p).toInstr = [opcode (0xC1 + stackPairIndex p * 16)]) ∧
   (∀ t, encode pfx (Form.rst t).toInstr = [opcode (0xC7 + threeVal t * 8)]) ∧
   (∀ u, encode pfx (Form.undefined u).toInstr = [undefByte u]) ∧
   (∀ o v, encode pfx (Form.rot o v).toInstr = [pfx, opcode (rotIndex o * 8 + locIndex v)]) ∧
   (∀ b v, encode pfx (Form.bit b v).toInstr = [pfx, opcode (0x40 + threeVal b * 8 + locIndex v)]) ∧
   (∀ b v, encode pfx (Form.res b v).toInstr = [pfx, opcode (0x80 + threeVal b * 8 + locIndex v)]) ∧
   (∀ b v, encode pfx (Form.set b v).toInstr = [pfx, opcode (0xC0 + threeVal b * 8 + locIndex v)])) ∧
  (∀ i : Instr, i.form.toInstr = i) ∧ ∀ f : Form, f.toInstr.form = f

/-! ## Reset and load -/

/-- Every piece of state at the value of the table R45, with any cartridge; the values are D10 (log 2), the blank image log 3. They are the defaults of the
argument `RESET`: with any other values, and any other parameters, reset leaves those (R45, R380). -/
def Obligations.ResetState : Prop :=
  (∀ (r : Reset) (p : Params) (cart : Cart), let s := State.resetFrom r p cart
    s.cpu = r.cpu ∧ s.ints = r.ints ∧ s.timer = r.timer ∧ s.ppu = r.ppu ∧ s.mem = r.mem ∧ s.cart = cart ∧ s.params = p) ∧
  (∀ cart : Cart,
    (State.resetWith cart).cpu =
      { a := 0x01, f := 0xB0, b := 0x00, c := 0x13, d := 0x00, e := 0xD8, h := 0x01, l := 0x4D, sp := 0xFFFE, pc := 0x0100,
        halted := false, stopped := false, imePending := .none } ∧
    (State.resetWith cart).ints = { ime := false, iflag := 0x00, ie := 0x00 } ∧
    (State.resetWith cart).timer = { div := 0, tima := 0, tma := 0, tmc := 0, divAcc := 0, timaAcc := 0 } ∧
    (State.resetWith cart).ppu =
      { lcdc := 0x91, stat := 0x02, scy := 0, scx := 0, ly := 0, lyc := 0, dma := 0, bgp := 0xFC, obp0 := 0xFF, obp1 := 0xFF, wy := 0, wx := 0,
        mode := .oamSearch, acc := 0, fb := List.replicate 144 (List.replicate 160 0) } ∧
    (∀ a, (State.resetWith cart).mem.read a = 0) ∧ (State.resetWith cart).cart = cart ∧ (State.resetWith cart).params = defaultParams ∧
    State.resetWith cart = State.resetFrom Reset.defaults defaultParams cart) ∧
  (∃ cart, State.reset = State.resetWith cart) ∧
  Mbc1.reset = { romBank := 1, ramBank := 0, romBankingMode := true, ramEnabled := false, cram := [] } ∧
  Mbc2.reset = { romBank := 1, ramEnabled := false, cram := [] }

/-- The state of reset meets every invariant. -/
def Obligations.ResetMeetsInvariants : Prop := Inv State.reset

/-- The load checks R72, R383: an image gives a machine exactly if it has 0x148 bytes or more, a known selector, and a size its kind allows
(the size bounds are D30, log 34), whatever `RESET` and the parameters. The machine is the state of reset around its image, byte by byte, and its bank
controller is the selector's, in its state of reset (R45, R380): by the defaults `Mbc1.reset` and `Mbc2.reset`. By the defaults it meets every invariant
(values D10, log 2). -/
def Obligations.LoadedMachine : Prop :=
  (∀ (r : Reset) (p : Params) (image : List Byte),
     ((∃ s, State.loadWith r p image = .ok s) ↔
       0x148 ≤ image.length ∧ ∃ v, image[0x147]? = some v ∧
         ((v = 0x00 ∧ image.length ≤ 0x8000) ∨ ((v = 0x01 ∨ v = 0x02 ∨ v = 0x03) ∧ image.length ≤ 0x200000) ∨
           ((v = 0x05 ∨ v = 0x06) ∧ image.length ≤ 0x40000))) ∧
     ∀ s, State.loadWith r p image = .ok s →
       s = State.resetFrom r p s.cart ∧ s.cart.image.len = image.length ∧
       (∀ k (h : k < image.length), s.cart.image.cells.read k = image[k]) ∧
       (image[0x147]? = some 0x00 → s.cart.mbc = .romOnly) ∧
       (image[0x147]? = some 0x01 ∨ image[0x147]? = some 0x02 ∨ image[0x147]? = some 0x03 → s.cart.mbc = .mbc1 { r.mbc1 with romBank := 1 }) ∧
       (image[0x147]? = some 0x05 ∨ image[0x147]? = some 0x06 → s.cart.mbc = .mbc2 { r.mbc2 with romBank := 1 })) ∧
  ∀ (image : List Byte) (s : State), State.load image = .ok s →
    State.loadWith Reset.defaults defaultParams image = .ok s ∧ s = State.resetWith s.cart ∧ Inv s ∧
    (image[0x147]? = some 0x00 → s.cart.mbc = .romOnly) ∧
    (image[0x147]? = some 0x01 ∨ image[0x147]? = some 0x02 ∨ image[0x147]? = some 0x03 → s.cart.mbc = .mbc1 Mbc1.reset) ∧
    (image[0x147]? = some 0x05 ∨ image[0x147]? = some 0x06 → s.cart.mbc = .mbc2 Mbc2.reset)

/-! ## The machine step -/

/-- When the bytes at `PC` decode to an instruction, the step is `exec` of it with `PC` past its bytes, then timer, pixel unit and interrupt
controller by the cycle count it reports (R101, R310; the order of the fetches is log 37);
the acts of the host and the latch come first (R29, D6 and log 7; R311, D39 and log 12). -/
def Obligations.StepRunsDecodedInstruction : Prop :=
  ∀ (s : State) (bytes : List Byte) (i : Instr),
    (atFetch s).cpu.halted = false → (atFetch s).cpu.stopped = false → Fetches (atFetch s) bytes i →
    (∀ t u, exec i (setPc ((atFetch s).cpu.pc + BitVec.ofNat 16 bytes.length) (atFetch s)) = .next t → afterCycles t.cycles t = .ok u → step s = .next u) ∧
    (∀ t f, exec i (setPc ((atFetch s).cpu.pc + BitVec.ofNat 16 bytes.length) (atFetch s)) = .next t → afterCycles t.cycles t = .error f → step s = .fault f) ∧
    (∀ f, exec i (setPc ((atFetch s).cpu.pc + BitVec.ofNat 16 bytes.length) (atFetch s)) = .fault f → step s = .fault f)

/-- A halted or stopped step fetches nothing and reports `CYC_IDLE` (R101, R315; a parameter, by default 4: D4, log 6); the devices run.
`HALT` with `IME = 0` and an enabled interrupt already pending does not halt (R281, R393; no halt bug: D11, log 26).
A stopped machine stays stopped and runs no instruction: no general register and no flag changes again (R282, R315, R393; D9, log 25).
The byte of `HALT` is not the parameter `PREFIX` (D2). -/
def Obligations.IdleAndStopped : Prop :=
  (∀ s t : State, (atFetch s).cpu.halted = true ∨ (atFetch s).cpu.stopped = true →
     afterCycles s.params.cycIdle { atFetch s with cycles := s.params.cycIdle } = .ok t → step s = .next t) ∧
  (∀ s t : State, (atFetch s).cpu.halted = false → (atFetch s).cpu.stopped = false → (atFetch s).ints.ime = false →
     (atFetch s).ints.iflag &&& (atFetch s).ints.ie &&& 0x1F ≠ 0 →
     (atFetch s).params.prefixByte ≠ 0x76 → memRead (atFetch s).cpu.pc (atFetch s) = .ok 0x76 → step s = .next t →
     t.cpu.halted = false ∧ t.cpu.pc = (atFetch s).cpu.pc + 1) ∧
  ∀ s t : State, s.cpu.stopped = true → step s = .next t →
    t.cpu.stopped = true ∧ (∀ r, getReg r t = getReg r s) ∧ t.cpu.f = s.cpu.f ∧ t.cycles = s.params.cycIdle

/-- Before the fetch: the host changes at most the button snapshot and `IF` bit 4 (R312, R370; the schedule is log 12); then `IME` takes the latched
value and the latch returns to `None`, and nothing else changes (R29, R101; D6, log 7). -/
def Obligations.BeforeTheFetch : Prop :=
  (∀ s : State, ∃ b acts,
     hostPhase s = { s with joypad := { s.joypad with buttons := b }, hostActs := acts } ∨
     hostPhase s = { s with joypad := { s.joypad with buttons := b }, hostActs := acts, ints := { s.ints with iflag := s.ints.iflag ||| 0x10 } }) ∧
  ∀ s : State,
    latchIme s = { s with
      ints := { s.ints with ime := decide (s.cpu.imePending = .enable ∨ (s.cpu.imePending = .none ∧ s.ints.ime = true)) }
      cpu := { s.cpu with imePending := .none } }

/-- The `EI` shadow: an `EI` that finds `IME = 0` leaves `IME = 0` to the end of its own step, whatever is pending, and the next instruction's
address in `PC` (R283, R391; D6, log 7).
The lost `DI`: with an enabled interrupt pending, a `DI` that finds `IME = 1` is followed by a dispatch, which clears the latch too
(R284, R390; D6, log 7). The bytes of `EI` and `DI` are not the parameter `PREFIX` (D2). -/
def Obligations.DeferredLatchHazards : Prop :=
  (∀ s t : State, (atFetch s).params.imeDefer = .deferred → (atFetch s).cpu.halted = false → (atFetch s).cpu.stopped = false →
     (atFetch s).ints.ime = false → (atFetch s).params.prefixByte ≠ 0xFB → memRead (atFetch s).cpu.pc (atFetch s) = .ok 0xFB →
     step s = .next t →
     t.ints.ime = false ∧ t.cpu.imePending = .enable ∧ t.cpu.pc = (atFetch s).cpu.pc + 1 ∧ t.cpu.sp = (atFetch s).cpu.sp) ∧
  ∀ s t : State, (atFetch s).params.imeDefer = .deferred → (atFetch s).cpu.halted = false → (atFetch s).cpu.stopped = false →
    (atFetch s).ints.ime = true → (atFetch s).ints.iflag &&& (atFetch s).ints.ie &&& 0x1F ≠ 0 →
    (atFetch s).params.prefixByte ≠ 0xF3 → memRead (atFetch s).cpu.pc (atFetch s) = .ok 0xF3 → step s = .next t →
    (t.cpu.pc = 0x40 ∨ t.cpu.pc = 0x48 ∨ t.cpu.pc = 0x50 ∨ t.cpu.pc = 0x58 ∨ t.cpu.pc = 0x60) ∧
    t.cpu.imePending = .none ∧ t.ints.ime = false ∧ t.cpu.sp = (atFetch s).cpu.sp - 2

/-! ## Registers -/

/-- Pair views (R21): "high byte first", decompose and recompose is the identity, and writing `AF` clears the low nibble of `F`. -/
def Obligations.PairViews : Prop :=
  (∀ s, FlagsOk s →
    (getStackPair .af s).toNat = s.cpu.a.toNat * 256 + s.cpu.f.toNat ∧ (getStackPair .bc s).toNat = s.cpu.b.toNat * 256 + s.cpu.c.toNat ∧
    (getStackPair .de s).toNat = s.cpu.d.toNat * 256 + s.cpu.e.toNat ∧ (getStackPair .hl s).toNat = s.cpu.h.toNat * 256 + s.cpu.l.toNat) ∧
  (∀ w s,
    setStackPair .bc w s = { s with cpu := { s.cpu with b := hiByte w, c := loByte w } } ∧
    setStackPair .de w s = { s with cpu := { s.cpu with d := hiByte w, e := loByte w } } ∧
    setStackPair .hl w s = { s with cpu := { s.cpu with h := hiByte w, l := loByte w } } ∧
    setStackPair .af w s = { s with cpu := { s.cpu with a := hiByte w, f := loByte w &&& 0xF0 } }) ∧
  (∀ p w s, getStackPair p (setStackPair p w s) = if p = .af then w &&& 0xFFF0 else w) ∧
  (∀ p w s, getPair p (setPair p w s) = w) ∧
  ∀ p s, FlagsOk s → setStackPair p (getStackPair p s) s = s

/-- The flag register (R22): Z N H C in bits 7 to 4; the low nibble is zero at reset, and no instruction and no step makes it non-zero. -/
def Obligations.FlagRegister : Prop :=
  FlagsOk State.reset ∧
  (∀ z n h c s, let f := (setFlags z n h c s).cpu.f
    f.getLsbD 7 = z ∧ f.getLsbD 6 = n ∧ f.getLsbD 5 = h ∧ f.getLsbD 4 = c ∧ f &&& 0x0F = 0) ∧
  (∀ s, zf s = s.cpu.f.getLsbD 7 ∧ nf s = s.cpu.f.getLsbD 6 ∧ hf s = s.cpu.f.getLsbD 5 ∧ cf s = s.cpu.f.getLsbD 4) ∧
  (∀ i s t, FlagsOk s → exec i s = .next t → FlagsOk t) ∧
  ∀ s t, FlagsOk s → step s = .next t → FlagsOk t

/-! ## The bus -/

/-- The bus read (R52), line by line. All eight bits of `IF` and `IE` read back as stored (D17, log 30); the byte at 0xFF00 is the joypad's free value
(R370; D37, log 11). That the addresses the map omits are plain cells is D20 (R51; log 29, log 33), the byte of the restricted range D19 (R55; log 9), that
`DMA` reads back the byte written D22 (R57; log 33), that `STAT` and `TMC` read all eight bits D24 (log 24) and D36 (log 23). -/
def Obligations.BusReadMap : Prop :=
  ∀ (a : Word) (s : State),
    (a.toNat < 0x8000 ∨ (0xA000 ≤ a.toNat ∧ a.toNat < 0xC000) → memRead a s = cartRead s.params s.cart a) ∧
    (0xFEA0 ≤ a.toNat ∧ a.toNat ≤ 0xFEFF → memRead a s = .ok s.params.restrictedRead) ∧
    (a = 0xFF00 → memRead a s = .ok (Config.joypadRead s.joypad.buttons s.joypad.writes)) ∧
    (a = 0xFF04 → memRead a s = .ok s.timer.div) ∧ (a = 0xFF05 → memRead a s = .ok s.timer.tima) ∧
    (a = 0xFF06 → memRead a s = .ok s.timer.tma) ∧ (a = 0xFF07 → memRead a s = .ok s.timer.tmc) ∧
    (a = 0xFF0F → memRead a s = .ok s.ints.iflag) ∧ (a = 0xFFFF → memRead a s = .ok s.ints.ie) ∧
    (a = 0xFF40 → memRead a s = .ok s.ppu.lcdc) ∧ (a = 0xFF41 → memRead a s = .ok s.ppu.stat) ∧ (a = 0xFF42 → memRead a s = .ok s.ppu.scy) ∧
    (a = 0xFF43 → memRead a s = .ok s.ppu.scx) ∧ (a = 0xFF44 → memRead a s = .ok s.ppu.ly) ∧ (a = 0xFF45 → memRead a s = .ok s.ppu.lyc) ∧
    (a = 0xFF46 → memRead a s = .ok s.ppu.dma) ∧ (a = 0xFF47 → memRead a s = .ok s.ppu.bgp) ∧ (a = 0xFF48 → memRead a s = .ok s.ppu.obp0) ∧
    (a = 0xFF49 → memRead a s = .ok s.ppu.obp1) ∧ (a = 0xFF4A → memRead a s = .ok s.ppu.wy) ∧ (a = 0xFF4B → memRead a s = .ok s.ppu.wx) ∧
    (NoEarlierLine a → memRead a s = .ok (s.mem.read a.toNat))

/-- The bus write (R53), line by line; the DMA action is stated in `DmaCopy`. That 0xDE00 to 0xDFFF has no mirror is D21 (log 33), that `STAT` stores all
eight bits D24 and that an `LY` write clears `LY` alone D23 (log 24), that `IF` and `IE` store all eight bits D17 (log 30), that the joypad keeps the
list of bytes written is log 11 (R370; D37). That the addresses the map omits are plain cells is D20 (R51; log 29, log 33), that a `DIV` write leaves
`tima_acc` and that `TMC` stores all eight bits D36 (log 23). -/
def Obligations.BusWriteMap : Prop :=
  ∀ (a : Word) (v : Byte) (s : State),
    (a.toNat < 0x8000 ∨ (0xA000 ≤ a.toNat ∧ a.toNat < 0xC000) → memWrite a v s = .ok { s with cart := cartWrite s.params s.cart a v }) ∧
    (0xC000 ≤ a.toNat ∧ a.toNat ≤ 0xDDFF → memWrite a v s = .ok { s with mem := (s.mem.write a.toNat v).write (a.toNat + 0x2000) v }) ∧
    (0xDE00 ≤ a.toNat ∧ a.toNat ≤ 0xDFFF → memWrite a v s = .ok { s with mem := s.mem.write a.toNat v }) ∧
    (0xE000 ≤ a.toNat ∧ a.toNat ≤ 0xFDFF → memWrite a v s = .ok { s with mem := (s.mem.write a.toNat v).write (a.toNat - 0x2000) v }) ∧
    (0xFEA0 ≤ a.toNat ∧ a.toNat ≤ 0xFEFF → memWrite a v s = .ok s) ∧
    (a = 0xFF00 → memWrite a v s = .ok { s with joypad := { s.joypad with writes := v :: s.joypad.writes } }) ∧
    (a = 0xFF04 → memWrite a v s = .ok { s with timer := { s.timer with div := 0, divAcc := 0 } }) ∧
    (a = 0xFF05 → memWrite a v s = .ok { s with timer := { s.timer with tima := v } }) ∧
    (a = 0xFF06 → memWrite a v s = .ok { s with timer := { s.timer with tma := v } }) ∧
    (a = 0xFF07 → memWrite a v s = .ok { s with timer := { s.timer with tmc := v } }) ∧
    (a = 0xFF0F → memWrite a v s = .ok { s with ints := { s.ints with iflag := v } }) ∧
    (a = 0xFFFF → memWrite a v s = .ok { s with ints := { s.ints with ie := v } }) ∧
    (a = 0xFF40 → memWrite a v s = .ok { s with ppu := { s.ppu with lcdc := v } }) ∧
    (a = 0xFF41 → memWrite a v s = .ok { s with ppu := { s.ppu with stat := v } }) ∧
    (a = 0xFF42 → memWrite a v s = .ok { s with ppu := { s.ppu with scy := v } }) ∧
    (a = 0xFF43 → memWrite a v s = .ok { s with ppu := { s.ppu with scx := v } }) ∧
    (a = 0xFF44 → memWrite a v s = .ok { s with ppu := { s.ppu with ly := 0 } }) ∧
    (a = 0xFF45 → memWrite a v s = .ok { s with ppu := { s.ppu with lyc := v } }) ∧
    (a = 0xFF47 → memWrite a v s = .ok { s with ppu := { s.ppu with bgp := v } }) ∧
    (a = 0xFF48 → memWrite a v s = .ok { s with ppu := { s.ppu with obp0 := v } }) ∧
    (a = 0xFF49 → memWrite a v s = .ok { s with ppu := { s.ppu with obp1 := v } }) ∧
    (a = 0xFF4A → memWrite a v s = .ok { s with ppu := { s.ppu with wy := v } }) ∧
    (a = 0xFF4B → memWrite a v s = .ok { s with ppu := { s.ppu with wx := v } }) ∧
    (NoEarlierLine a → a.toNat < 0xC000 ∨ 0xFDFF < a.toNat → memWrite a v s = .ok { s with mem := s.mem.write a.toNat v })

/-- Plain cells (R58) and work RAM with its echo: a read returns the last byte written, and nothing but the written address, or its mirror, reads
differently. That the addresses the map omits are plain cells is D20 (log 29, log 33), that video RAM and OAM are never blocked D20, that 0xDE00 to 0xDFFF
has no mirror D21 (log 33).
Echo RAM (R54): a byte written to 0xC000 to 0xDDFF or to 0xE000 to 0xFDFF reads back at both addresses. -/
def Obligations.CellsReadBack : Prop :=
  (∀ (a : Word) (v : Byte) (s : State), isPlain a.toNat = true ∨ isWork a.toNat = true →
     ∃ t, memWrite a v s = .ok t ∧ memRead a t = .ok v ∧ ∀ b, mayChange a b = false → memRead b t = memRead b s) ∧
  ∀ (a b : Word) (v : Byte) (s : State), 0xC000 ≤ a.toNat → a.toNat ≤ 0xDDFF → b.toNat = a.toNat + 0x2000 →
    (∃ t, memWrite a v s = .ok t ∧ memRead a t = .ok v ∧ memRead b t = .ok v) ∧
    ∃ t, memWrite b v s = .ok t ∧ memRead a t = .ok v ∧ memRead b t = .ok v

/-- The DMA copy (R57): OAM byte i becomes the byte the source address reads, the DMA register holds the page (D22, log 33), no other byte of `M`
and nothing else changes; the copy completes exactly if all 160 source addresses can be read (R88; D29, log 10). -/
def Obligations.DmaCopy : Prop :=
  ∀ (v : Byte) (s : State),
    (∀ t, memWrite 0xFF46 v s = .ok t →
      (∀ i, i < 160 → memRead (BitVec.ofNat 16 (v.toNat * 256 + i)) { s with ppu := { s.ppu with dma := v } } = .ok (t.mem.read (0xFE00 + i))) ∧
      (∀ a, ¬ (0xFE00 ≤ a ∧ a < 0xFEA0) → t.mem.read a = s.mem.read a) ∧
      t = { s with ppu := { s.ppu with dma := v }, mem := t.mem }) ∧
    ((∃ t, memWrite 0xFF46 v s = .ok t) ↔ ∀ i, i < 160 → ∃ b, memRead (BitVec.ofNat 16 (v.toNat * 256 + i)) s = .ok b)

/-- When a bus read completes (R52, R88): always, but for a cartridge offset at or beyond the image's end, which is the model's fault
`CartOutOfRange` (D29, log 10).
When a bus write completes, and what it never touches: every write but a DMA trigger completes; none changes the CPU, `IME`, the hidden counters,
the mode, the frame buffer, the image, the kind, the parameters or the model's own fields (R53, R62, R38, R44; that a `DIV` write leaves `tima_acc` is D36,
log 23, that an `LY` write leaves the mode and its counter D23, log 24). -/
def Obligations.BusCompletesAndKeeps : Prop :=
  (∀ (a : Word) (s : State),
     (0x8000 ≤ a.toNat ∨ imageOffset s.cart.mbc a.toNat < s.cart.image.len → ∃ b, memRead a s = .ok b) ∧
     (a.toNat < 0x8000 → s.cart.image.len ≤ imageOffset s.cart.mbc a.toNat →
       memRead a s = .error (.cartOutOfRange a (imageOffset s.cart.mbc a.toNat)))) ∧
  ∀ (a : Word) (v : Byte) (s : State),
    (a ≠ 0xFF46 → ∃ t, memWrite a v s = .ok t) ∧
    ∀ t, memWrite a v s = .ok t →
      t.cpu = s.cpu ∧ t.ints.ime = s.ints.ime ∧ t.timer.timaAcc = s.timer.timaAcc ∧ t.ppu.mode = s.ppu.mode ∧ t.ppu.acc = s.ppu.acc ∧
      t.ppu.fb = s.ppu.fb ∧ t.cart.image = s.cart.image ∧ kindOf t.cart.mbc = kindOf s.cart.mbc ∧ t.params = s.params ∧
      t.cycles = s.cycles ∧ t.hostActs = s.hostActs ∧ t.handedFrame = s.handedFrame ∧ t.joypad.buttons = s.joypad.buttons

/-- A bus write changes no read but those `mayChange` names (R53 to R59, R62, R74 to R85). Rows of it that are the spec's choices: no mirror from 0xDE00 to
0xDFFF is D21, the `DMA` register read back D22 (log 33), an `LY` write touching `LY` alone D23 (log 24), a mode write of MBC1 changing no window D25,
MBC2's registers D27 (log 28). -/
def Obligations.BusWriteFootprint : Prop :=
  ∀ (a b : Word) (v : Byte) (s t : State), memWrite a v s = .ok t → mayChange a b = false → memRead b t = memRead b s

/-! ## The cartridge -/

/-- MBC1 control writes (R74, R75, R76, R78). -/
def Obligations.Mbc1Control : Prop :=
  ∀ (p : Params) (img : Image) (m : Mbc1) (a : Word) (v : Byte), ∃ m', cartWrite p { image := img, mbc := .mbc1 m } a v = { image := img, mbc := .mbc1 m' } ∧
    (a.toNat < 0x2000 → m' = { m with ramEnabled := decide (v.toNat % 16 = 0xA) }) ∧
    (0x2000 ≤ a.toNat → a.toNat < 0x4000 →
      let bank := m.romBank.toNat / 32 * 32 + v.toNat % 32
      m' = { m with romBank := BitVec.ofNat 7 (if bank % 32 = 0 then bank + 1 else bank) }) ∧
    (0x4000 ≤ a.toNat → a.toNat < 0x6000 → m.romBankingMode = true →
      let bank := m.romBank.toNat % 32 + v.toNat % 4 * 32
      m' = { m with romBank := BitVec.ofNat 7 (if bank % 32 = 0 then bank + 1 else bank) }) ∧
    (0x4000 ≤ a.toNat → a.toNat < 0x6000 → m.romBankingMode = false → m' = { m with ramBank := BitVec.ofNat 2 v.toNat })

/-- MBC1's mode register, cartridge RAM and ROM windows (R77, R79, R80; D25, D26, D30, log 28; an offset beyond the image is D29, log 10).
`CRAM` ends at the parameter `CART_RAM_SIZE`, by default 0x8000, which no offset reaches (log 40). -/
def Obligations.Mbc1Windows : Prop :=
  ∀ (p : Params) (img : Image) (m : Mbc1) (a : Word) (v : Byte),
    (0x6000 ≤ a.toNat → a.toNat < 0x8000 →
      cartWrite p { image := img, mbc := .mbc1 m } a v = { image := img, mbc := .mbc1 { m with romBankingMode := decide (v.toNat % 2 = 0) } }) ∧
    (a.toNat < 0x4000 → a.toNat < img.len → cartRead p { image := img, mbc := .mbc1 m } a = .ok (img.cells.read a.toNat)) ∧
    (0x4000 ≤ a.toNat → a.toNat < 0x8000 → (a.toNat - 0x4000) + m.romBank.toNat * 0x4000 < img.len →
      cartRead p { image := img, mbc := .mbc1 m } a = .ok (img.cells.read ((a.toNat - 0x4000) + m.romBank.toNat * 0x4000))) ∧
    (0xA000 ≤ a.toNat → a.toNat < 0xC000 → (a.toNat - 0xA000) + m.ramBank.toNat * 0x2000 < 0x8000) ∧
    (0xA000 ≤ a.toNat → a.toNat < 0xC000 → m.ramEnabled = true → (a.toNat - 0xA000) + m.ramBank.toNat * 0x2000 < p.cartRamSize.mbc1 →
      cartRead p { image := img, mbc := .mbc1 m } a = .ok (m.cram.read ((a.toNat - 0xA000) + m.ramBank.toNat * 0x2000)) ∧
      cartWrite p { image := img, mbc := .mbc1 m } a v =
        { image := img, mbc := .mbc1 { m with cram := m.cram.write ((a.toNat - 0xA000) + m.ramBank.toNat * 0x2000) v } } ∧
      cartRead p (cartWrite p { image := img, mbc := .mbc1 m } a v) a = .ok v) ∧
    (0xA000 ≤ a.toNat → a.toNat < 0xC000 → m.ramEnabled = false ∨ p.cartRamSize.mbc1 ≤ (a.toNat - 0xA000) + m.ramBank.toNat * 0x2000 →
      cartRead p { image := img, mbc := .mbc1 m } a = .ok p.cartRamOffRead ∧
      cartWrite p { image := img, mbc := .mbc1 m } a v = { image := img, mbc := .mbc1 m })

/-- MBC2 (R81 to R85; D27, log 28; an offset beyond the image is D29, log 10); `CRAM` ends at `CART_RAM_SIZE`, by default 512 (log 40).
The ROM-only cartridge (R73): reads index the image, a write does nothing; that a read of 0xA000 to 0xBFFF gives `CART_RAM_OFF_READ` is D28
(log 9), an offset beyond the image D29 (log 10). -/
def Obligations.Mbc2AndRomOnly : Prop :=
  (∀ (p : Params) (img : Image) (m : Mbc2) (a : Word) (v : Byte),
     (a.toNat < 0x2000 →
       cartWrite p { image := img, mbc := .mbc2 m } a v = { image := img, mbc := .mbc2 { m with ramEnabled := decide (v.toNat % 16 = 0xA) } }) ∧
     (0x2000 ≤ a.toNat → a.toNat < 0x4000 → a.toNat / 256 % 2 = 1 →
       cartWrite p { image := img, mbc := .mbc2 m } a v =
         { image := img, mbc := .mbc2 { m with romBank := BitVec.ofNat 4 (if v.toNat % 16 = 0 then 1 else v.toNat % 16) } }) ∧
     (0x2000 ≤ a.toNat → a.toNat < 0x4000 → a.toNat / 256 % 2 = 0 →
       cartWrite p { image := img, mbc := .mbc2 m } a v = { image := img, mbc := .mbc2 m }) ∧
     (0x4000 ≤ a.toNat → a.toNat < 0x8000 → cartWrite p { image := img, mbc := .mbc2 m } a v = { image := img, mbc := .mbc2 m }) ∧
     (a.toNat < 0x4000 → a.toNat < img.len → cartRead p { image := img, mbc := .mbc2 m } a = .ok (img.cells.read a.toNat)) ∧
     (0x4000 ≤ a.toNat → a.toNat < 0x8000 → (a.toNat - 0x4000) + m.romBank.toNat * 0x4000 < img.len →
       cartRead p { image := img, mbc := .mbc2 m } a = .ok (img.cells.read ((a.toNat - 0x4000) + m.romBank.toNat * 0x4000))) ∧
     (0xA000 ≤ a.toNat → a.toNat < 0xA200 → m.ramEnabled = true → a.toNat - 0xA000 < p.cartRamSize.mbc2 →
       cartRead p { image := img, mbc := .mbc2 m } a = .ok (m.cram.read (a.toNat - 0xA000) &&& 0x0F) ∧
       cartRead p (cartWrite p { image := img, mbc := .mbc2 m } a v) a = .ok (v &&& 0x0F)) ∧
     (0xA000 ≤ a.toNat → a.toNat < 0xC000 → (m.ramEnabled = false ∨ 0xA200 ≤ a.toNat ∨ p.cartRamSize.mbc2 ≤ a.toNat - 0xA000) →
       cartRead p { image := img, mbc := .mbc2 m } a = .ok p.cartRamOffRead ∧
       cartWrite p { image := img, mbc := .mbc2 m } a v = { image := img, mbc := .mbc2 m })) ∧
  ∀ (p : Params) (img : Image) (a : Word) (v : Byte),
    cartWrite p { image := img, mbc := .romOnly } a v = { image := img, mbc := .romOnly } ∧
    (a.toNat < 0x8000 → a.toNat < img.len → cartRead p { image := img, mbc := .romOnly } a = .ok (img.cells.read a.toNat)) ∧
    (0xA000 ≤ a.toNat → a.toNat < 0xC000 → cartRead p { image := img, mbc := .romOnly } a = .ok p.cartRamOffRead)

/-! ## 8-bit loads (40_load8.md) -/

/-- `LD r,r'` and `LD r,n` (R130, R131): the destination register alone.
The loads from memory (R132, R135, R136, R139, R141, R143, R145, R147), for an operand byte that can be read. -/
def Obligations.LoadByte : Prop :=
  (∀ (s : State) (dst r : Reg8) (n : Byte),
     exec (Form.ldReg dst r).toInstr s = .next { setReg dst (getReg r s) s with cycles := cost (.ldReg dst r) s } ∧
     exec (Form.ldN (.reg dst) n).toInstr s = .next { setReg dst n s with cycles := cost (.ldN (.reg dst) n) s } ∧
     ∀ v r', getReg r' (setReg dst v s) = if r' = dst then v else getReg r' s) ∧
  ∀ (s : State) (v : Byte),
    (∀ dst, memRead (getHL s) s = .ok v → exec (Form.ldFromHL dst).toInstr s = .next { setReg dst v s with cycles := cost (.ldFromHL dst) s }) ∧
    (memRead (getPair .bc s) s = .ok v → exec (Form.ldAAtPtr .bc).toInstr s = .next { setReg .a v s with cycles := cost (.ldAAtPtr .bc) s }) ∧
    (memRead (getPair .de s) s = .ok v → exec (Form.ldAAtPtr .de).toInstr s = .next { setReg .a v s with cycles := cost (.ldAAtPtr .de) s }) ∧
    (memRead (getHL s) s = .ok v →
      exec (Form.ldAAtPtr .hlInc).toInstr s = .next { setHL (getHL s + 1) (setReg .a v s) with cycles := cost (.ldAAtPtr .hlInc) s } ∧
      exec (Form.ldAAtPtr .hlDec).toInstr s = .next { setHL (getHL s - 1) (setReg .a v s) with cycles := cost (.ldAAtPtr .hlDec) s }) ∧
    (∀ nn, memRead nn s = .ok v → exec (Form.ldAAtNn nn).toInstr s = .next { setReg .a v s with cycles := cost (.ldAAtNn nn) s }) ∧
    (memRead (0xFF00 + s.cpu.c.setWidth 16) s = .ok v → exec Form.ldhAAtC.toInstr s = .next { setReg .a v s with cycles := cost .ldhAAtC s }) ∧
    (∀ n, memRead (0xFF00 + n.setWidth 16) s = .ok v → exec (Form.ldhAAtN n).toInstr s = .next { setReg .a v s with cycles := cost (.ldhAAtN n) s })

/-- The stores of a byte (R133, R134, R137, R138, R140, R142, R144, R146, R148): the bus write of the named byte at the named address, then the step
of `HL`; every address but 0xFF46 completes (`BusCompletesAndKeeps`). -/
def Obligations.StoreByte : Prop :=
  ∀ s t : State,
    (∀ r, memWrite (getHL s) (getReg r s) s = .ok t → exec (Form.ldToHL r).toInstr s = .next { t with cycles := cost (.ldToHL r) s }) ∧
    (∀ n, memWrite (getHL s) n s = .ok t → exec (Form.ldN .atHL n).toInstr s = .next { t with cycles := cost (.ldN .atHL n) s }) ∧
    (memWrite (getPair .bc s) s.cpu.a s = .ok t → exec (Form.ldAtPtrA .bc).toInstr s = .next { t with cycles := cost (.ldAtPtrA .bc) s }) ∧
    (memWrite (getPair .de s) s.cpu.a s = .ok t → exec (Form.ldAtPtrA .de).toInstr s = .next { t with cycles := cost (.ldAtPtrA .de) s }) ∧
    (memWrite (getHL s) s.cpu.a s = .ok t →
      exec (Form.ldAtPtrA .hlInc).toInstr s = .next { setHL (getHL s + 1) t with cycles := cost (.ldAtPtrA .hlInc) s } ∧
      exec (Form.ldAtPtrA .hlDec).toInstr s = .next { setHL (getHL s - 1) t with cycles := cost (.ldAtPtrA .hlDec) s }) ∧
    (∀ nn, memWrite nn s.cpu.a s = .ok t → exec (Form.ldAtNnA nn).toInstr s = .next { t with cycles := cost (.ldAtNnA nn) s }) ∧
    (memWrite (0xFF00 + s.cpu.c.setWidth 16) s.cpu.a s = .ok t → exec Form.ldhAtCA.toInstr s = .next { t with cycles := cost .ldhAtCA s }) ∧
    (∀ n, memWrite (0xFF00 + n.setWidth 16) s.cpu.a s = .ok t → exec (Form.ldhAtNA n).toInstr s = .next { t with cycles := cost (.ldhAtNA n) s })

/-! ## 16-bit loads and the stack (41_load16_stack.md) -/

/-- `LD rp,nn`, `LD SP,HL` and `LD (nn),SP` (R160 to R162; the byte order is D16, log 32).
`PUSH` and `POP` (R164 to R166): the high byte at `SP - 1`, the low byte at `SP - 2`; a pop into `AF` drops the low nibble of the flags. -/
def Obligations.Load16AndStack : Prop :=
  (∀ (s : State) (nn : Word),
     (∀ p, exec (Form.ldPairNn p nn).toInstr s = .next { setPair p nn s with cycles := cost (.ldPairNn p nn) s }) ∧
     exec Form.ldSpHl.toInstr s = .next { s with cpu := { s.cpu with sp := getHL s }, cycles := cost .ldSpHl s } ∧
     ∀ s1 s2, memWrite nn (loByte s.cpu.sp) s = .ok s1 → memWrite (nn + 1) (hiByte s.cpu.sp) s1 = .ok s2 →
       exec (Form.ldAtNnSp nn).toInstr s = .next { s2 with cycles := cost (.ldAtNnSp nn) s }) ∧
  ∀ (s : State) (p : StackPair),
    (∀ t, Pushed (getStackPair p s) s t → exec (Form.push p).toInstr s = .next { t with cycles := cost (.push p) s }) ∧
    (∀ w, OnStack w s → exec (Form.pop p).toInstr s = .next { setStackPair p w (popped s) with cycles := cost (.pop p) s })

/-- What a push stores a pop finds (R12, R25), where both stack bytes are plain cells or work RAM that do not mirror each other; and a push
completes unless one of its bytes triggers a DMA copy. Which cells are plain is D20 (log 29, log 33). -/
def Obligations.PopFindsPushed : Prop :=
  ∀ (w : Word) (s : State),
    (s.cpu.sp - 1 ≠ 0xFF46 → s.cpu.sp - 2 ≠ 0xFF46 → ∃ t, Pushed w s t) ∧
    ∀ t, Pushed w s t → (isPlain (s.cpu.sp - 1).toNat = true ∨ isWork (s.cpu.sp - 1).toNat = true) →
      (isPlain (s.cpu.sp - 2).toNat = true ∨ isWork (s.cpu.sp - 2).toNat = true) →
      t.cpu.sp = s.cpu.sp - 2 ∧ OnStack w t ∧ popped t = { t with cpu := s.cpu }

/-! ## 8-bit arithmetic and logic (42_alu8.md) -/

/-- `ADD` and `ADC` with every operand form (R180 b, R181, R182; that the carry-in enters H and C is D13, log 31). -/
def Obligations.AddWithCarry : Prop :=
  ∀ (src : Source) (v : Byte) (s : State), src.value s = .ok v →
    (let sum := s.cpu.a.toNat + v.toNat
     exec (src.form .add).toInstr s = .next { withAF (BitVec.ofNat 8 sum)
       (packFlags (isZero sum) false (decide (s.cpu.a.toNat % 16 + v.toNat % 16 > 0xF)) (decide (sum > 0xFF))) s with cycles := cost (src.form .add) s }) ∧
    (let sum := s.cpu.a.toNat + v.toNat + carryNat s
     exec (src.form .adc).toInstr s = .next { withAF (BitVec.ofNat 8 sum)
       (packFlags (isZero sum) false (decide (s.cpu.a.toNat % 16 + v.toNat % 16 + carryNat s > 0xF)) (decide (sum > 0xFF)))
         s with cycles := cost (src.form .adc) s })

/-- `SUB`, `SBC` and `CP` with every operand form (R180 c, R183, R184, R188; that the borrow enters H and C is D13, log 31): `CP` leaves A. -/
def Obligations.SubtractAndCompare : Prop :=
  ∀ (src : Source) (v : Byte) (s : State), src.value s = .ok v →
    (let f := packFlags (decide (s.cpu.a = v)) true (decide (s.cpu.a.toNat % 16 < v.toNat % 16)) (decide (s.cpu.a.toNat < v.toNat))
     exec (src.form .sub).toInstr s =
       .next { withAF (BitVec.ofNat 8 (s.cpu.a.toNat + 256 - v.toNat)) f s with cycles := cost (src.form .sub) s } ∧
     exec (src.form .cp).toInstr s = .next { withF f s with cycles := cost (src.form .cp) s }) ∧
    (let diff := s.cpu.a.toNat + 512 - v.toNat - carryNat s
     exec (src.form .sbc).toInstr s = .next { withAF (BitVec.ofNat 8 diff)
       (packFlags (isZero diff) true (decide (s.cpu.a.toNat % 16 < v.toNat % 16 + carryNat s)) (decide (s.cpu.a.toNat < v.toNat + carryNat s))) s
       with cycles := cost (src.form .sbc) s })

/-- `AND`, `XOR` and `OR` with every operand form (R185 to R187; the forced flags are D15, log 31).
`CPL`, `SCF`, `CCF` (R192 to R194; the kept and forced flags are D15, log 31). -/
def Obligations.LogicAndFlagOps : Prop :=
  (∀ (src : Source) (v : Byte) (s : State), src.value s = .ok v →
     exec (src.form .and).toInstr s =
       .next { withAF (s.cpu.a &&& v) (packFlags (decide (s.cpu.a &&& v = 0)) false true false) s with cycles := cost (src.form .and) s } ∧
     exec (src.form .xor).toInstr s =
       .next { withAF (s.cpu.a ^^^ v) (packFlags (decide (s.cpu.a ^^^ v = 0)) false false false) s with cycles := cost (src.form .xor) s } ∧
     exec (src.form .or).toInstr s =
       .next { withAF (s.cpu.a ||| v) (packFlags (decide (s.cpu.a ||| v = 0)) false false false) s with cycles := cost (src.form .or) s }) ∧
  ∀ s : State,
    exec Form.cpl.toInstr s = .next { withAF (BitVec.ofNat 8 (255 - s.cpu.a.toNat)) (packFlags (zf s) true true (cf s)) s with cycles := cost .cpl s } ∧
    exec Form.scf.toInstr s = .next { withF (packFlags (zf s) false false true) s with cycles := cost .scf s } ∧
    exec Form.ccf.toInstr s = .next { withF (packFlags (zf s) false false (!cf s)) s with cycles := cost .ccf s }

/-- `INC` and `DEC` of an 8-bit operand (R189, R190): one read, one write, then Z, N, H; that C is kept is D15 (log 31). -/
def Obligations.IncrementDecrement : Prop :=
  ∀ (s : State) (v : Loc8) (x : Byte), readLoc v s = .ok x →
    (∀ t, writeLoc v (BitVec.ofNat 8 (x.toNat + 1)) s = .ok t →
      exec (Form.inc v).toInstr s =
        .next { withF (packFlags (isZero (x.toNat + 1)) false (decide (x.toNat % 16 = 0xF)) (cf s)) t with cycles := cost (.inc v) s }) ∧
    (∀ t, writeLoc v (BitVec.ofNat 8 (x.toNat + 255)) s = .ok t →
      exec (Form.dec v).toInstr s =
        .next { withF (packFlags (decide (x = 1)) true (decide (x.toNat % 16 = 0)) (cf s)) t with cycles := cost (.dec v) s })

/-- The source's property (R189): "INC n followed by DEC n restores the original value and clears Z/N/H exactly as the two single operations
independently predict", in any of the seven registers; that C is kept is D15 (log 31). -/
def Obligations.IncThenDecRestores : Prop :=
  ∀ (s t u : State) (r : Reg8), exec (Form.inc (.reg r)).toInstr s = .next t → exec (Form.dec (.reg r)).toInstr t = .next u →
    (∀ r', getReg r' u = getReg r' s) ∧ cf u = cf s ∧ nf u = true ∧ zf u = decide (getReg r s = 0) ∧
    hf u = decide ((getReg r s).toNat % 16 = 0xF)

/-- `DAA` (R191), by its corrections; the output flags are D14 (log 31). -/
def Obligations.DecimalAdjust : Prop :=
  ∀ s : State,
    let a := s.cpu.a.toNat
    let high := cf s = true ∨ (nf s = false ∧ a > 0x99)
    let low := hf s = true ∨ (nf s = false ∧ a % 16 > 9)
    let adj := (if high then 0x60 else 0) + (if low then 0x06 else 0)
    let res := BitVec.ofNat 8 (if nf s then a + 256 - adj else a + adj)
    exec Form.daa.toInstr s = .next { withAF res (packFlags (decide (res = 0)) (nf s) false (decide high)) s with cycles := cost .daa s }

/-- `DAA` does decimal arithmetic (R191): after `ADD` or `SUB` of two-digit packed decimal numbers, A holds the packed decimal result and C says
whether it left 0 to 99 (the flags of `DAA` are D14, log 31). -/
def Obligations.DecimalAdjustIsDecimal : Prop :=
  ∀ (s t u : State) (x y : Nat) (v : Loc8), x < 100 → y < 100 →
    s.cpu.a.toNat = x / 10 * 16 + x % 10 → readLoc v s = .ok (BitVec.ofNat 8 (y / 10 * 16 + y % 10)) →
    (exec (Form.alu .add v).toInstr s = .next t → exec Form.daa.toInstr t = .next u →
      u.cpu.a.toNat = (x + y) % 100 / 10 * 16 + (x + y) % 10 ∧ (cf u = true ↔ 100 ≤ x + y)) ∧
    (exec (Form.alu .sub v).toInstr s = .next t → exec Form.daa.toInstr t = .next u →
      u.cpu.a.toNat = (x + 100 - y) % 100 / 10 * 16 + (x + 100 - y) % 10 ∧ (cf u = true ↔ x < y))

/-! ## 16-bit arithmetic (43_alu16.md) -/

/-- `ADD HL,rp`, `INC rp`, `DEC rp` (R220 to R222): H and C from bits 11 and 15, N = 0, Z kept (D15, log 31); the 16-bit steps write no flag.
`ADD SP,e` and `LD HL,SP+e` (R163, R223) with either value of `ADDSP_FLAGS` (D12, log 8): Z = N = 0. -/
def Obligations.Arithmetic16 : Prop :=
  (∀ (s : State) (p : Pair),
     (let sum := (getHL s).toNat + (getPair p s).toNat
      exec (Form.addHlPair p).toInstr s =
       .next { withF (packFlags (zf s) false (decide ((getHL s).toNat % 0x1000 + (getPair p s).toNat % 0x1000 > 0xFFF)) (decide (sum > 0xFFFF)))
         (setHL (BitVec.ofNat 16 sum) s) with cycles := cost (.addHlPair p) s }) ∧
     exec (Form.incPair p).toInstr s = .next { setPair p (BitVec.ofNat 16 ((getPair p s).toNat + 1)) s with cycles := cost (.incPair p) s } ∧
     exec (Form.decPair p).toInstr s = .next { setPair p (BitVec.ofNat 16 ((getPair p s).toNat + 0xFFFF)) s with cycles := cost (.decPair p) s }) ∧
  ∀ (s : State) (e : Byte),
    let w := if e.toNat < 0x80 then e.toNat else 0xFF00 + e.toNat
    let sum := s.cpu.sp.toNat + w
    (s.params.addSpFlags = .bits11and15 →
      let f := packFlags false false (decide (s.cpu.sp.toNat % 0x1000 + w % 0x1000 > 0xFFF)) (decide (sum > 0xFFFF))
      exec (Form.addSpE e).toInstr s = .next { withF f { s with cpu := { s.cpu with sp := BitVec.ofNat 16 sum } } with cycles := cost (.addSpE e) s } ∧
      exec (Form.ldHlSpE e).toInstr s = .next { withF f (setHL (BitVec.ofNat 16 sum) s) with cycles := cost (.ldHlSpE e) s }) ∧
    (s.params.addSpFlags = .bits3and7 →
      let f := packFlags false false (decide (s.cpu.sp.toNat % 16 + e.toNat % 16 > 0xF)) (decide (s.cpu.sp.toNat % 256 + e.toNat > 0xFF))
      exec (Form.addSpE e).toInstr s = .next { withF f { s with cpu := { s.cpu with sp := BitVec.ofNat 16 sum } } with cycles := cost (.addSpE e) s } ∧
      exec (Form.ldHlSpE e).toInstr s = .next { withF f (setHL (BitVec.ofNat 16 sum) s) with cycles := cost (.ldHlSpE e) s })

/-! ## Rotates, shifts, bits (44_rotate_shift_bit.md) -/

/-- The accumulator rotates (R230 to R233): Z forced 0 whatever the result (D15, C4; log 31).
The rotates, shifts and `SWAP` of the extended table on every operand (R234 to R242): Z derived, N = H = 0, C the bit shifted out. -/
def Obligations.Rotates : Prop :=
  (∀ s : State,
     (let c := decide (s.cpu.a.toNat / 128 = 1)
      exec (Form.accRot .rlca).toInstr s =
        .next { withAF (BitVec.ofNat 8 (s.cpu.a.toNat * 2 % 256 + s.cpu.a.toNat / 128)) (packFlags false false false c)
          s with cycles := cost (.accRot .rlca) s } ∧
      exec (Form.accRot .rla).toInstr s =
        .next { withAF (BitVec.ofNat 8 (s.cpu.a.toNat * 2 % 256 + carryNat s)) (packFlags false false false c) s with cycles := cost (.accRot .rla) s }) ∧
     (let c := decide (s.cpu.a.toNat % 2 = 1)
      exec (Form.accRot .rrca).toInstr s =
        .next { withAF (BitVec.ofNat 8 (s.cpu.a.toNat / 2 + s.cpu.a.toNat % 2 * 128)) (packFlags false false false c)
          s with cycles := cost (.accRot .rrca) s } ∧
      exec (Form.accRot .rra).toInstr s =
        .next { withAF (BitVec.ofNat 8 (s.cpu.a.toNat / 2 + carryNat s * 128)) (packFlags false false false c) s with cycles := cost (.accRot .rra) s })) ∧
  ∀ (s t : State) (o : RotOp) (v : Loc8) (x : Byte), readLoc v s = .ok x →
    writeLoc v (BitVec.ofNat 8 (rotResult o x.toNat (carryNat s))) s = .ok t →
    exec (Form.rot o v).toInstr s =
      .next { withF (packFlags (isZero (rotResult o x.toNat (carryNat s))) false false (rotCarry o x.toNat)) t with cycles := cost (.rot o v) s }

/-- `BIT`, `RES`, `SET` on every operand (R243 to R245): `BIT` writes Z, N, H alone, the other two their operand alone. That `BIT` forces H = 1 and keeps
C is D15 (log 31). -/
def Obligations.BitOperations : Prop :=
  ∀ (s : State) (b : Three) (v : Loc8) (x : Byte), readLoc v s = .ok x →
    let one := x.toNat / 2 ^ threeVal b % 2
    exec (Form.bit b v).toInstr s = .next { withF (packFlags (decide (one = 0)) false true (cf s)) s with cycles := cost (.bit b v) s } ∧
    (∀ t, writeLoc v (BitVec.ofNat 8 (x.toNat - one * 2 ^ threeVal b)) s = .ok t →
      exec (Form.res b v).toInstr s = .next { t with cycles := cost (.res b v) s }) ∧
    (∀ t, writeLoc v (BitVec.ofNat 8 (x.toNat + (1 - one) * 2 ^ threeVal b)) s = .ok t →
      exec (Form.set b v).toInstr s = .next { t with cycles := cost (.set b v) s })

/-- The prefix row is the extended instruction its second byte names (R110, R285; the prefix value is D2, the row log 16), and so completes where that
does. Any value of `PREFIX` selects the extended table; with another prefix the byte 0xCB is its base-table entry, this row (log 16). -/
def Obligations.PrefixRow : Prop :=
  (∀ pfx b1 b2 : Byte, decodeInstr pfx pfx b1 b2 = (decodeExtended b1).toInstr ∧
    (pfx ≠ 0xCB → decodeInstr pfx 0xCB b1 b2 = (Form.prefixCb b1).toInstr)) ∧
  ∀ (op2 : Byte) (s : State),
    exec (Form.prefixCb op2).toInstr s = exec (decodeExtended op2).toInstr s ∧
    (op2.toNat % 8 ≠ 6 → ∃ t, exec (Form.prefixCb op2).toInstr s = .next t) ∧
    (∀ x, memRead (getHL s) s = .ok x → getHL s ≠ 0xFF46 → ∃ t, exec (Form.prefixCb op2).toInstr s = .next t)

/-! ## Control transfer (45_control.md) -/

/-- The jumps (R260 to R264) and the conditions (R105): taken or not by `Zf` or `Cf`, with the figure for each. -/
def Obligations.Jumps : Prop :=
  (∀ s, cond .nz s = !zf s ∧ cond .z s = zf s ∧ cond .nc s = !cf s ∧ cond .c s = cf s) ∧
  ∀ (s : State) (cc : Cond) (nn : Word) (e : Byte),
    let target := BitVec.ofNat 16 (s.cpu.pc.toNat + (if e.toNat < 0x80 then e.toNat else 0xFF00 + e.toNat))
    exec (Form.jpNn nn).toInstr s = .next { s with cpu := { s.cpu with pc := nn }, cycles := cost (.jpNn nn) s } ∧
    exec Form.jpHl.toInstr s = .next { s with cpu := { s.cpu with pc := getHL s }, cycles := cost .jpHl s } ∧
    exec (Form.jr e).toInstr s = .next { s with cpu := { s.cpu with pc := target }, cycles := cost (.jr e) s } ∧
    (cond cc s = true →
      exec (Form.jpCc cc nn).toInstr s = .next { s with cpu := { s.cpu with pc := nn }, cycles := cost (.jpCc cc nn) s } ∧
      exec (Form.jrCc cc e).toInstr s = .next { s with cpu := { s.cpu with pc := target }, cycles := cost (.jrCc cc e) s }) ∧
    (cond cc s = false →
      exec (Form.jpCc cc nn).toInstr s = .next { s with cycles := costNotTaken (.jpCc cc nn) s } ∧
      exec (Form.jrCc cc e).toInstr s = .next { s with cycles := costNotTaken (.jrCc cc e) s })

/-- The calls and restarts (R265, R266, R270): push `PC`, then the target; not taken, nothing.
The returns (R267 to R269): `PC` from the stack; `RETI` sets `IME` at once (D7, log 27); not taken, nothing is read. -/
def Obligations.CallsAndReturns : Prop :=
  (∀ (s : State) (cc : Cond) (nn : Word) (r : Three),
     (∀ t, Pushed s.cpu.pc s t →
       exec (Form.callNn nn).toInstr s = .next { t with cpu := { t.cpu with pc := nn }, cycles := cost (.callNn nn) s } ∧
       exec (Form.rst r).toInstr s = .next { t with cpu := { t.cpu with pc := BitVec.ofNat 16 (threeVal r * 8) }, cycles := cost (.rst r) s } ∧
       (cond cc s = true → exec (Form.callCc cc nn).toInstr s = .next { t with cpu := { t.cpu with pc := nn }, cycles := cost (.callCc cc nn) s })) ∧
     (cond cc s = false → exec (Form.callCc cc nn).toInstr s = .next { s with cycles := costNotTaken (.callCc cc nn) s })) ∧
  ∀ (s : State) (cc : Cond),
    (∀ w, OnStack w s →
      exec Form.ret.toInstr s = .next { popped s with cpu := { s.cpu with sp := s.cpu.sp + 2, pc := w }, cycles := cost .ret s } ∧
      (cond cc s = true →
        exec (Form.retCc cc).toInstr s = .next { popped s with cpu := { s.cpu with sp := s.cpu.sp + 2, pc := w }, cycles := cost (.retCc cc) s }) ∧
      exec Form.reti.toInstr s =
        .next { popped s with cpu := { s.cpu with sp := s.cpu.sp + 2, pc := w }, ints := { s.ints with ime := true }, cycles := cost .reti s }) ∧
    (cond cc s = false → exec (Form.retCc cc).toInstr s = .next { s with cycles := costNotTaken (.retCc cc) s })

/-! ## System instructions (46_system.md) -/

/-- `NOP`, `HALT`, `STOP`, `EI`, `DI` (R280 to R284; `STOP` is D9, log 25, the latch D6, log 7). -/
def Obligations.SystemInstructions : Prop :=
  ∀ (s : State) (pad : Byte),
    exec Form.nop.toInstr s = .next { s with cycles := cost .nop s } ∧
    exec Form.halt.toInstr s = .next { s with cpu := { s.cpu with halted := true }, cycles := cost .halt s } ∧
    exec (Form.stop pad).toInstr s = .next { s with cpu := { s.cpu with stopped := true }, cycles := cost (.stop pad) s } ∧
    (s.params.imeDefer = .deferred →
      exec Form.ei.toInstr s = .next { s with cpu := { s.cpu with imePending := .enable }, cycles := cost .ei s } ∧
      exec Form.di.toInstr s = .next { s with cpu := { s.cpu with imePending := .disable }, cycles := cost .di s }) ∧
    (s.params.imeDefer = .immediate →
      exec Form.ei.toInstr s = .next { s with ints := { s.ints with ime := true }, cycles := cost .ei s } ∧
      exec Form.di.toInstr s = .next { s with ints := { s.ints with ime := false }, cycles := cost .di s })

/-- The eleven undefined bytes (R118, R286; D8, log 5): no other byte is one, and a byte that is `PREFIX` is none; with `UNDEF_OP` = fault the model's
fault with the byte and its address, with nop nothing but `PC` and 4 cycles. -/
def Obligations.UndefinedBytes : Prop :=
  (∀ pfx op b1 b2, (∃ u, decodeInstr pfx op b1 b2 = (Form.undefined u).toInstr) ↔
    op ≠ pfx ∧ op ∈ ([0xD3, 0xDB, 0xDD, 0xE3, 0xE4, 0xEB, 0xEC, 0xED, 0xF4, 0xFC, 0xFD] : List Byte)) ∧
  ∀ (u : Undef) (s : State),
    (s.params.undefOp = .fault → exec (Form.undefined u).toInstr s = .fault (.undefinedOpcode (undefByte u) (s.cpu.pc - 1))) ∧
    (s.params.undefOp = .nop → exec (Form.undefined u).toInstr s = .next { s with cycles := 4 })

/-! ## Frames over every instruction -/

/-- Every instruction, when it completes, leaves every register but those `Sys2Proof.Machine.destRegs` names, `F` where R23 names no flag, `SP` where
R25 does not name it, `PC` but for control transfer (R24), `Halted` but for `HALT` (R26), `Stopped` but for `STOP` (R27), `IME` and its latch
but for `EI`, `DI`, `RETI` (R28, R29). Which instructions write no flag (R23: loads, control transfer, 16-bit `INC` and `DEC`) is D15 (log 31), the latch
D6 (log 7). -/
def Obligations.RegisterFrame : Prop :=
  ∀ (f : Form) (s t : State), exec f.toInstr s = .next t →
    (∀ r, r ∉ destRegs f → getReg r t = getReg r s) ∧
    (writesFlags f = false → t.cpu.f = s.cpu.f) ∧ (writesSp f = false → t.cpu.sp = s.cpu.sp) ∧ (writesPc f = false → t.cpu.pc = s.cpu.pc) ∧
    (f ≠ .halt → t.cpu.halted = s.cpu.halted) ∧ ((∀ pad, f ≠ .stop pad) → t.cpu.stopped = s.cpu.stopped) ∧
    (writesIme f = false → t.ints.ime = s.ints.ime ∧ t.cpu.imePending = s.cpu.imePending)

/-- Every instruction, when it completes, changes no read of the bus but those its stores may change: `storeTargets` computes the addresses stored to
as the meanings do, `mayChange` the reads a store there may change. Rows of `mayChange` that are the spec's choices: no mirror from 0xDE00 to 0xDFFF is D21,
the `DMA` register read back D22 (log 33), an `LY` write touching `LY` alone D23 (log 24), a mode write of MBC1 changing no window D25, MBC2's registers
D27 (log 28). -/
def Obligations.MemoryFrame : Prop :=
  ∀ (f : Form) (s t : State), exec f.toInstr s = .next t →
    ∀ b, (∀ a, a ∈ storeTargets f s → mayChange a b = false) → memRead b t = memRead b s

/-- Every instruction leaves the state no bus address holds: the counter of the timer, the mode, cycles and frame buffer of the pixel unit, the image and
kind of the cartridge, buttons, parameters and the model's own fields; and one that stores nothing leaves every device, all memory and the
cartridge (R62, R310). That a `DIV` write leaves `tima_acc` is D36 (log 23), that an `LY` write leaves the mode and its counter D23 (log 24). -/
def Obligations.DeviceFrame : Prop :=
  ∀ (f : Form) (s t : State), exec f.toInstr s = .next t →
    (t.timer.timaAcc = s.timer.timaAcc ∧ t.ppu.mode = s.ppu.mode ∧ t.ppu.acc = s.ppu.acc ∧ t.ppu.fb = s.ppu.fb ∧
      t.cart.image = s.cart.image ∧ kindOf t.cart.mbc = kindOf s.cart.mbc ∧ t.joypad.buttons = s.joypad.buttons ∧ t.params = s.params ∧
      t.hostActs = s.hostActs ∧ t.handedFrame = s.handedFrame) ∧
    (storeTargets f s = [] → t = { s with cpu := t.cpu, cycles := t.cycles, ints := { s.ints with ime := t.ints.ime } })

/-! ## Interrupts (60_exceptions.md) -/

/-- Dispatch of interrupt i (R305; the latch is D6, log 7): `IF` bit i, `IME`, the latch and `Halted` cleared, `PC` pushed, `PC` at the vector (R301),
`Stopped` and every register else unchanged. -/
def Obligations.DispatchEntry : Prop :=
  ∀ (s t : State) (i : Nat) (f : Byte), i < 5 → (∀ k, k < 8 → f.getLsbD k = (s.ints.iflag.getLsbD k && decide (k ≠ i))) →
    Pushed s.cpu.pc { s with ints := { s.ints with iflag := f, ime := false }, cpu := { s.cpu with imePending := .none, halted := false } } t →
    takeInterrupt i s = .ok { t with cpu := { t.cpu with pc := ([0x40, 0x48, 0x50, 0x58, 0x60] : List Word).getD i 0 } }

/-- The dispatch consumes `CYC_INT` cycles: with 0, the default, the timer and the pixel unit do not advance (R305; D5); with another value they
advance by it after the dispatch (log 6). Priority (R301, R302, R304, R306; D17 and log 30, D18 and log 39): with `IME = 1` the lowest bit set in both
`IF` and `IE` is dispatched, one interrupt at most; with none, nothing happens; bits 7 to 5 never count. With `IME = 0` nothing is dispatched: an
awake CPU, or one for which no enabled interrupt is pending, stays as it is. -/
def Obligations.ResolvePriority : Prop :=
  (∀ t : State, consume 0 t = t ∧ ∀ n, n ≠ 0 → consume n t = ppuExecute n (timerUpdate n t)) ∧
  (∀ s : State, s.ints.ime = true →
    (∀ i, i < 5 → s.ints.iflag.getLsbD i = true → s.ints.ie.getLsbD i = true →
      (∀ k, k < i → s.ints.iflag.getLsbD k = false ∨ s.ints.ie.getLsbD k = false) →
        resolve s = (takeInterrupt i s).map (consume s.params.cycInt)) ∧
    ((∀ k, k < 5 → s.ints.iflag.getLsbD k = false ∨ s.ints.ie.getLsbD k = false) → resolve s = .ok s)) ∧
  ∀ s : State, s.ints.ime = false → s.cpu.halted = false ∨ s.ints.iflag &&& s.ints.ie &&& 0x1F = 0 → resolve s = .ok s

/-- Halt wake (R307; the order of the tests is D18 and C2, log 39): with `IME = 0`, a halted CPU and a pending enabled interrupt, `Halted` is cleared
and nothing else happens: nothing is pushed, the bit stays pending, and `PC` stands at the instruction after `HALT`. -/
def Obligations.HaltWake : Prop :=
  ∀ s : State, s.ints.ime = false → s.cpu.halted = true → s.ints.iflag &&& s.ints.ie &&& 0x1F ≠ 0 →
    resolve s = .ok { s with cpu := { s.cpu with halted := false } }

/-- `IME` (R28): no bus access reaches it, no instruction but `EI`, `DI`, `RETI` changes it or its latch, and dispatch clears it. -/
def Obligations.ImeChangedOnlyBy : Prop :=
  (∀ a v s t, memWrite a v s = .ok t → t.ints.ime = s.ints.ime) ∧
  (∀ (s : State) (b : Bool) (a : Word), memRead a { s with ints := { s.ints with ime := b } } = memRead a s) ∧
  (∀ (f : Form) (s t : State), f ≠ .ei → f ≠ .di → f ≠ .reti → exec f.toInstr s = .next t →
    t.ints.ime = s.ints.ime ∧ t.cpu.imePending = s.cpu.imePending) ∧
  ∀ i s t, takeInterrupt i s = .ok t → t.ints.ime = false

/-! ## Timer -/

/-- The divider (R321): the loop subtracts 256 as often as it can and adds that often to `DIV`; nothing else of the timer is written; with at most 24 cycles
it runs at most once. That the accumulator is a loop is D36 (log 23).
`Timer.update` (R320): the divider and then the counter, which `TimerCounter` states; so `DIV` counts whether or not the timer is enabled, and with the
timer off the divider is all and raises no interrupt. -/
def Obligations.DividerLoop : Prop :=
  (∀ (t : Timer) (cycles : Nat), ∃ k, t.divAcc + cycles = 256 * k + (divUpdate cycles t).divAcc ∧ (divUpdate cycles t).divAcc < 256 ∧
    divUpdate cycles t = { t with div := BitVec.ofNat 8 (t.div.toNat + k), divAcc := (divUpdate cycles t).divAcc } ∧
    (t.divAcc < 256 → cycles ≤ 24 → k ≤ 1)) ∧
  ∀ (s : State) (cycles : Nat),
    (timerUpdate cycles s).timer.div = (divUpdate cycles s.timer).div ∧ (timerUpdate cycles s).timer.divAcc = (divUpdate cycles s.timer).divAcc ∧
    (s.timer.tmc.getLsbD 2 = false → timerUpdate cycles s = { s with timer := divUpdate cycles s.timer }) ∧
    timerUpdate cycles s = counterUpdate cycles { s with timer := divUpdate cycles s.timer }

/-- The counter (R322, R323; D36, log 23): off, nothing changes; on, `TIMA` ticks once per divisor reached, and the remainder stays.
The period (R323; D36, log 23): from a reload, `256 - TMA` ticks, and not one fewer, bring the next overflow: `TIMA` reloaded, `IF` bit 2 set. -/
def Obligations.TimerCounter : Prop :=
  (∀ (s : State) (cycles : Nat),
     (s.timer.tmc.getLsbD 2 = false → counterUpdate cycles s = s) ∧
     (s.timer.tmc.getLsbD 2 = true →
       ∃ d k, d = ([1024, 16, 64, 256] : List Nat).getD (s.timer.tmc.toNat % 4) 0 ∧
         s.timer.timaAcc + cycles = d * k + (counterUpdate cycles s).timer.timaAcc ∧ (counterUpdate cycles s).timer.timaAcc < d ∧
         counterUpdate cycles s = Nat.iterate timaTick k { s with timer := { s.timer with timaAcc := (counterUpdate cycles s).timer.timaAcc } }) ∧
     (s.timer.tima = 0xFF →
       timaTick s = { s with timer := { s.timer with tima := s.timer.tma }, ints := { s.ints with iflag := s.ints.iflag ||| 0x04 } }) ∧
     (s.timer.tima ≠ 0xFF → timaTick s = { s with timer := { s.timer with tima := BitVec.ofNat 8 (s.timer.tima.toNat + 1) } })) ∧
  ∀ s : State, s.timer.tima = s.timer.tma →
    (∀ k, k < 256 - s.timer.tma.toNat →
      Nat.iterate timaTick k s = { s with timer := { s.timer with tima := BitVec.ofNat 8 (s.timer.tma.toNat + k) } }) ∧
    Nat.iterate timaTick (256 - s.timer.tma.toNat) s = { s with ints := { s.ints with iflag := s.ints.iflag ||| 0x04 } }

/-! ## Pixel unit -/

/-- The scanline state machine (R330 to R334; the carried remainder is D31, the VBlank request D32, log 24; lines no run reaches are log 35). -/
def Obligations.ScanlineStateMachine : Prop :=
  ∀ (s : State) (cycles : Nat),
    let acc := s.ppu.acc + cycles
    let limit := modeCycles s.ppu.mode
    (modeCycles .oamSearch = 80 ∧ modeCycles .pixelTransfer = 172 ∧ modeCycles .hBlank = 204 ∧ modeCycles .vBlank = 456) ∧
    (acc < limit → ppuExecute cycles s = { s with ppu := { s.ppu with acc := acc } }) ∧
    (limit ≤ acc →
      let u := { s with ppu := { s.ppu with acc := acc - limit } }
      let v := { u with ppu := { u.ppu with ly := BitVec.ofNat 8 (s.ppu.ly.toNat + 1) } }
      (s.ppu.mode = .oamSearch → ppuExecute cycles s = enterMode .pixelTransfer u) ∧
      (s.ppu.mode = .pixelTransfer → ppuExecute cycles s = enterMode .hBlank (renderScanline s.ppu.ly.toNat u)) ∧
      (s.ppu.mode = .hBlank → s.ppu.ly = 143 →
        ppuExecute cycles s = { enterMode .vBlank v with
          ints := { (enterMode .vBlank v).ints with iflag := (enterMode .vBlank v).ints.iflag ||| 0x01 }, handedFrame := some s.ppu.fb }) ∧
      (s.ppu.mode = .hBlank → s.ppu.ly ≠ 143 → ppuExecute cycles s = enterMode .oamSearch v) ∧
      (s.ppu.mode = .vBlank → s.ppu.ly.toNat < 153 → ppuExecute cycles s = v) ∧
      (s.ppu.mode = .vBlank → 153 ≤ s.ppu.ly.toNat →
        ppuExecute cycles s = enterMode .oamSearch { u with ppu := { u.ppu with ly := 0 } }))

/-- Entering a mode (R335, R36; D24 and D33, log 24): `STAT[1:0]` holds the mode's code, and interrupt 1 is requested exactly if the mode's own source
or the `LY = LYC` source is enabled and met. -/
def Obligations.EnterModeStat : Prop :=
  ∀ (s : State) (m : Mode),
    (let t := enterMode m s
     t.ppu.mode = m ∧ t.ppu.stat.toNat = s.ppu.stat.toNat / 4 * 4 + (match m with | .hBlank => 0 | .vBlank => 1 | .oamSearch => 2 | .pixelTransfer => 3)) ∧
    (let source := (m = .hBlank ∧ s.ppu.stat.getLsbD 3 = true) ∨ (m = .vBlank ∧ s.ppu.stat.getLsbD 4 = true) ∨
        (m = .oamSearch ∧ s.ppu.stat.getLsbD 5 = true) ∨ (s.ppu.stat.getLsbD 6 = true ∧ s.ppu.ly = s.ppu.lyc)
     let t := { s with ppu := { s.ppu with mode := m, stat := (enterMode m s).ppu.stat } }
     (source → enterMode m s = { t with ints := { t.ints with iflag := t.ints.iflag ||| 0x02 } }) ∧ (¬ source → enterMode m s = t))

/-- The frame (R336): each call of at most 24 cycles moves the pixel unit exactly that many cycles through a frame of 154 lines of 456 cycles,
70,224 in all, and keeps its line, its counter and its buffer in bounds (D31, log 24). -/
def Obligations.FrameOf70224Cycles : Prop :=
  ∀ (s : State) (cycles : Nat), PixelUnitOk s.ppu → cycles ≤ 24 →
    PixelUnitOk (ppuExecute cycles s).ppu ∧
    framePosition (ppuExecute cycles s).ppu % 70224 = (framePosition s.ppu + cycles) % 70224

/-- The background and window (R340 to R343; D34, D35, log 22; the reader is log 19): with sprites off, pixel `x` of a line is the
colour of two bytes read through the bus at the tile the map names; with the background off it is 0. -/
def Obligations.BackgroundPixel : Prop :=
  ∀ (s : State) (line x : Nat), line < 144 → x < 160 → s.ppu.fb.length = 144 → s.ppu.lcdc.getLsbD 1 = false →
    let pixel := ((renderScanline line s).ppu.fb.getD line []).getD x 0
    (s.ppu.lcdc.getLsbD 0 = false → pixel = 0) ∧
    (s.ppu.lcdc.getLsbD 0 = true →
      let win := s.ppu.lcdc.getLsbD 5 = true ∧ s.ppu.wy.toNat ≤ line
      let map := if (win ∧ s.ppu.lcdc.getLsbD 6 = true) ∨ (¬ win ∧ s.ppu.lcdc.getLsbD 3 = true) then 0x9C00 else 0x9800
      let ypos := if win then line - s.ppu.wy.toNat else (s.ppu.scy.toNat + line) % 256
      let xpos := if win ∧ s.ppu.wx.toNat ≤ x + 7 then x + 7 - s.ppu.wx.toNat else (x + s.ppu.scx.toNat) % 256
      ∃ idx lo hi : Byte,
        let tile := if s.ppu.lcdc.getLsbD 4 then 0x8000 + idx.toNat * 16
          else if idx.toNat < 0x80 then 0x9000 + idx.toNat * 16 else 0x8000 + idx.toNat * 16
        memRead (BitVec.ofNat 16 (map + ypos / 8 * 32 + xpos / 8)) s = .ok idx ∧
        memRead (BitVec.ofNat 16 (tile + ypos % 8 * 2)) s = .ok lo ∧ memRead (BitVec.ofNat 16 (tile + ypos % 8 * 2 + 1)) s = .ok hi ∧
        pixel.toNat = s.ppu.bgp.toNat / 4 ^ ((hi.getLsbD (7 - xpos % 8)).toNat * 2 + (lo.getLsbD (7 - xpos % 8)).toNat) % 4)

/-- Sprites (R340, R346; D35, log 22): pixel `x` of a line is that of the last sprite of OAM that paints there, and without one the background's. -/
def Obligations.SpriteComposition : Prop :=
  ∀ (s : State) (line x : Nat), line < 144 → x < 160 → s.ppu.fb.length = 144 → s.ppu.lcdc.getLsbD 1 = true →
    let pixel := ((renderScanline line s).ppu.fb.getD line []).getD x 0
    (∀ i c, i < 40 → spriteShade s line x i = some c → (∀ j, i < j → j < 40 → spriteShade s line x j = none) → pixel = c) ∧
    ((∀ i, i < 40 → spriteShade s line x i = none) → pixel = (backgroundRow s line).getD x 0)

/-- Rendering writes row `line` of the frame buffer and nothing else; outside 0 to 143 nothing (R39, R340; D35, log 22). -/
def Obligations.RenderWritesOneRow : Prop :=
  ∀ (s : State) (line : Nat),
    (144 ≤ line → renderScanline line s = s) ∧
    renderScanline line s = { s with ppu := { s.ppu with fb := (renderScanline line s).ppu.fb } } ∧
    (renderScanline line s).ppu.fb.length = s.ppu.fb.length ∧
    (∀ k, k ≠ line → (renderScanline line s).ppu.fb[k]? = s.ppu.fb[k]?) ∧
    (line < 144 → line < s.ppu.fb.length → ((renderScanline line s).ppu.fb.getD line []).length = 160)

/-! ## Invariants every step keeps -/

/-- Memory: every step keeps the canonical form of `M` and its state cells (R40), the mirror of work RAM (R54), and the bank controller's registers and
RAM in bounds (R41, R42, R78). That MBC2's bank is never 0 is the remap of D27 (log 28), the sizes of cartridge RAM D30 (log 28), and the canonical form of
memory is the model's representation (log 15). -/
def Obligations.StepKeepsMemoryAndBanks : Prop :=
  ∀ s t : State, MemOk s → EchoOk s → MbcOk s.cart.mbc → step s = .next t → MemOk t ∧ EchoOk t ∧ MbcOk t.cart.mbc

/-- Devices: every step keeps `div_acc` below 256 (R33), the line, the cycle counter and the size of the frame buffer of the pixel unit (R38, R39,
R330), where the cycle figures keep the bound of the tables (R113); no step changes the figures. That the accumulator is a loop is D36 (log 23), the carried
remainder D31, an `LY` write that leaves the mode and its counter D23 (log 24); the parameters are carried in State by log 4. -/
def Obligations.StepKeepsDevices : Prop :=
  ∀ s t : State, FiguresOk s.params → DividerOk s → PixelUnitOk s.ppu → step s = .next t →
    FiguresOk t.params ∧ DividerOk t ∧ PixelUnitOk t.ppu

/-- Parameters: no step changes the image, the kind of the cartridge, "fixed at cartridge-load time and never changes", or a parameter (R44; log 4). -/
def Obligations.StepKeepsCartridgeAndParameters : Prop :=
  ∀ s t : State, step s = .next t → t.cart.image = s.cart.image ∧ kindOf t.cart.mbc = kindOf s.cart.mbc ∧ t.params = s.params

/-! ## The parameters -/

/-- The defaults of the parameters (00_scope.md R7): the cycle figures of R113 and R114 row by row (D3, log 6), `CYC_IDLE` = 4 (D4), `CYC_INT` = 0 (D5),
`PREFIX` = 0xCB (D2), `FRAME_BUDGET` = 70,224, `CART_RAM_SIZE` = 0x8000 and 512 (D30, log 40), and the five choices of D6, D8, D12, D19, D26. -/
def Obligations.DefaultFigures : Prop :=
  (∀ s : State, s.params = defaultParams →
    (∀ dst r v, cost (.ldReg dst r) s = 4 ∧ cost (.ldFromHL dst) s = 8 ∧ cost (.ldToHL r) s = 8 ∧ ∀ n, cost (.ldN v n) s = byOperand v 8 12) ∧
    (∀ ptr nn n, cost (.ldAtPtrA ptr) s = 8 ∧ cost (.ldAAtPtr ptr) s = 8 ∧ cost (.ldAtNnA nn) s = 16 ∧ cost (.ldAAtNn nn) s = 16 ∧
      cost .ldhAtCA s = 8 ∧ cost .ldhAAtC s = 8 ∧ cost (.ldhAtNA n) s = 12 ∧ cost (.ldhAAtN n) s = 12) ∧
    (∀ p sp nn e, cost (.ldPairNn p nn) s = 12 ∧ cost (.ldAtNnSp nn) s = 20 ∧ cost .ldSpHl s = 8 ∧ cost (.ldHlSpE e) s = 12 ∧
      cost (.push sp) s = 16 ∧ cost (.pop sp) s = 12) ∧
    (∀ op v n, cost (.alu op v) s = byOperand v 4 8 ∧ cost (.aluN op n) s = 8 ∧ cost (.inc v) s = byOperand v 4 12 ∧
      cost (.dec v) s = byOperand v 4 12 ∧ cost .daa s = 4 ∧ cost .cpl s = 4 ∧ cost .scf s = 4 ∧ cost .ccf s = 4) ∧
    (∀ p e, cost (.addHlPair p) s = 8 ∧ cost (.incPair p) s = 8 ∧ cost (.decPair p) s = 8 ∧ cost (.addSpE e) s = 16) ∧
    (∀ ar o b v op2, cost (.accRot ar) s = 4 ∧ cost (.rot o v) s = byOperand v 8 16 ∧ cost (.bit b v) s = byOperand v 8 12 ∧
      cost (.res b v) s = byOperand v 8 16 ∧ cost (.set b v) s = byOperand v 8 16 ∧
      cost (.prefixCb op2) s = if op2.toNat % 8 ≠ 6 then 8 else if 0x40 ≤ op2.toNat ∧ op2.toNat < 0x80 then 12 else 16) ∧
    (∀ cc nn e, cost (.jpNn nn) s = 16 ∧ cost .jpHl s = 4 ∧ cost (.jr e) s = 12 ∧ cost (.jpCc cc nn) s = 16 ∧ costNotTaken (.jpCc cc nn) s = 12 ∧
      cost (.jrCc cc e) s = 12 ∧ costNotTaken (.jrCc cc e) s = 8) ∧
    (∀ cc nn r, cost (.callNn nn) s = 24 ∧ cost (.callCc cc nn) s = 24 ∧ costNotTaken (.callCc cc nn) s = 12 ∧ cost .ret s = 16 ∧ cost .reti s = 16 ∧
      cost (.retCc cc) s = 20 ∧ costNotTaken (.retCc cc) s = 8 ∧ cost (.rst r) s = 16) ∧
    ∀ pad, cost .nop s = 4 ∧ cost .halt s = 4 ∧ cost (.stop pad) s = 4 ∧ cost .ei s = 4 ∧ cost .di s = 4) ∧
  defaultParams.cyc.length = 256 ∧ defaultParams.cycCb.length = 256 ∧ defaultParams.cycIdle = 4 ∧ defaultParams.cycInt = 0 ∧
  defaultParams.prefixByte = 0xCB ∧ defaultParams.frameBudget = 70224 ∧ defaultParams.cartRamSize = { mbc1 := 0x8000, mbc2 := 512 } ∧
  defaultParams.undefOp = .fault ∧ defaultParams.imeDefer = .deferred ∧ defaultParams.addSpFlags = .bits11and15 ∧
  defaultParams.restrictedRead = 0xFF ∧ defaultParams.cartRamOffRead = 0xFF ∧ FiguresOk defaultParams

end Statements
end

