-- ==== Sys2Proof/Laws/Bits.lean ====
section
/-! SUPPORT. Bytes and words: joining and splitting, sign extension, flag bytes. -/

namespace Sys2Proof

theorem cat_toNat (hi lo : Byte) : (cat hi lo).toNat = hi.toNat * 256 + lo.toNat := by
  have h1 := hi.isLt
  have h2 := lo.isLt
  simp only [cat, BitVec.toNat_ofNat]
  omega

theorem cat_eq_append (hi lo : Byte) : cat hi lo = hi ++ lo := by
  apply BitVec.eq_of_toNat_eq
  rw [cat_toNat, BitVec.toNat_append, Nat.shiftLeft_eq, Nat.mul_comm, Nat.two_pow_add_eq_or_of_lt lo.isLt]

/-- Masking the low nibble of a word masks its low byte. -/
theorem cat_and_mask (hi lo : Byte) : cat hi lo &&& 0xFFF0 = cat hi (lo &&& 0xF0) := by
  have mask : (0xFFF0 : Word) = (0xFF : Byte) ++ (0xF0 : Byte) := by decide
  have all : hi &&& 0xFF = hi := BitVec.and_allOnes
  rw [cat_eq_append, cat_eq_append, mask, BitVec.and_append, all]

theorem hiByte_toNat (w : Word) : (hiByte w).toNat = w.toNat / 256 := by
  have h := w.isLt
  simp only [hiByte, BitVec.toNat_ofNat]
  omega

theorem loByte_toNat (w : Word) : (loByte w).toNat = w.toNat % 256 := by
  simp only [loByte, BitVec.toNat_ofNat]

@[simp] theorem cat_hiByte_loByte (w : Word) : cat (hiByte w) (loByte w) = w := by
  apply BitVec.eq_of_toNat_eq
  rw [cat_toNat, hiByte_toNat, loByte_toNat]
  omega

@[simp] theorem hiByte_cat (hi lo : Byte) : hiByte (cat hi lo) = hi := by
  have h := lo.isLt
  apply BitVec.eq_of_toNat_eq
  rw [hiByte_toNat, cat_toNat]
  omega

@[simp] theorem loByte_cat (hi lo : Byte) : loByte (cat hi lo) = lo := by
  have h := lo.isLt
  apply BitVec.eq_of_toNat_eq
  rw [loByte_toNat, cat_toNat]
  omega

theorem sext16_toNat (b : Byte) : (sext16 b).toNat = if b.toNat < 0x80 then b.toNat else 0xFF00 + b.toNat := by
  have h := b.isLt
  unfold sext16
  split <;> simp only [BitVec.toNat_ofNat] <;> omega

/-- A word and its halves are equal together. -/
theorem eq_cat_iff (w : Word) (hi lo : Byte) : w = cat hi lo ↔ hiByte w = hi ∧ loByte w = lo := by
  constructor
  · rintro rfl
    simp
  · rintro ⟨rfl, rfl⟩
    simp

theorem bit_eq (v : Byte) (i : Nat) : bit v i = v.getLsbD i := rfl

theorem field_eq (v : Byte) (lo width : Nat) : field v lo width = v.toNat / 2 ^ lo % 2 ^ width := rfl

end Sys2Proof

namespace Sys2Proof.Machine

theorem packFlags_bits (z n h c : Bool) :
    bit (packFlags z n h c) 7 = z ∧ bit (packFlags z n h c) 6 = n ∧ bit (packFlags z n h c) 5 = h ∧ bit (packFlags z n h c) 4 = c := by
  cases z <;> cases n <;> cases h <;> cases c <;> decide

@[simp] theorem packFlags_mask (z n h c : Bool) : packFlags z n h c &&& 240#8 = packFlags z n h c := by
  cases z <;> cases n <;> cases h <;> cases c <;> decide

theorem packFlags_low (z n h c : Bool) : packFlags z n h c &&& 0x0F = 0 := by
  cases z <;> cases n <;> cases h <;> cases c <;> decide

theorem mask_low (v : Byte) : v &&& 0xF0 &&& 0x0F = 0 := by
  rw [BitVec.and_assoc]
  simp

/-- A flag byte with a zero low nibble is its own masked reading. -/
theorem mask_of_low (f : Byte) (h : f &&& 0x0F = 0) : f &&& 0xF0 = f := by
  have e : f &&& 0xF0 ||| f &&& 0x0F = f := by
    have full : (0xF0 ||| 0x0F : Byte) = BitVec.allOnes 8 := by decide
    rw [← BitVec.and_or_distrib_left, full, BitVec.and_allOnes]
  rw [h] at e
  simpa using e

end Sys2Proof.Machine
end

