-- ==== Sys2Proof/Laws/Memory.lean ====
section
/-! SUPPORT. The laws of byte memories: a read after a write, and the canonical form, which every write keeps. -/

namespace Sys2Proof.Machine

/-! ## Reading -/

@[simp] theorem Memory.read_nil (a : Nat) : Memory.read [] a = Memory.unlisted := rfl

theorem Memory.read_erase_same (m : Memory) (a : Nat) : (m.erase a).read a = Memory.unlisted := by
  induction m with
  | nil => rfl
  | cons c rest ih =>
    simp only [Memory.erase]
    split
    · exact ih
    · next h => simp [Memory.read, h, ih]

theorem Memory.read_erase_other (m : Memory) (a b : Nat) (h : b ≠ a) : (m.erase a).read b = m.read b := by
  induction m with
  | nil => rfl
  | cons c rest ih =>
    simp only [Memory.erase]
    split
    · next hk => simp [Memory.read, ih, hk, Ne.symm h]
    · simp [Memory.read, ih]

theorem Memory.not_mem_erase (m : Memory) (a : Nat) : ∀ c ∈ m.erase a, c.1 ≠ a := by
  induction m with
  | nil => simp [Memory.erase]
  | cons c rest ih =>
    simp only [Memory.erase]
    split
    · exact ih
    · next h =>
      intro d hd
      rcases List.mem_cons.mp hd with rfl | hd
      · exact h
      · exact ih d hd

theorem Memory.read_insert_same (m : Memory) (a : Nat) (v : Byte) (h : ∀ c ∈ m, c.1 ≠ a) : (m.insert a v).read a = v := by
  induction m with
  | nil => simp [Memory.insert, Memory.read]
  | cons c rest ih =>
    simp only [Memory.insert]
    split
    · simp [Memory.read]
    · have hc : c.1 ≠ a := h c (List.mem_cons_self ..)
      simp [Memory.read, hc, ih fun d hd => h d (List.mem_cons_of_mem _ hd)]

theorem Memory.read_insert_other (m : Memory) (a b : Nat) (v : Byte) (h : b ≠ a) : (m.insert a v).read b = m.read b := by
  induction m with
  | nil => simp [Memory.insert, Memory.read, Ne.symm h]
  | cons c rest ih =>
    simp only [Memory.insert]
    split
    · simp [Memory.read, Ne.symm h]
    · simp [Memory.read, ih]

/-- A read after a write: the written byte at the written address, the old byte anywhere else. -/
theorem Memory.read_write (m : Memory) (a b : Nat) (v : Byte) : (m.write a v).read b = if b = a then v else m.read b := by
  unfold Memory.write
  split
  · next hv =>
    split
    · next h => rw [h, Memory.read_erase_same, hv]
    · next h => exact Memory.read_erase_other m a b h
  · split
    · next h => rw [h]; exact Memory.read_insert_same _ a v (Memory.not_mem_erase m a)
    · next h => rw [Memory.read_insert_other _ a b v h, Memory.read_erase_other m a b h]

@[simp] theorem Memory.read_write_same (m : Memory) (a : Nat) (v : Byte) : (m.write a v).read a = v := by
  simp [Memory.read_write]

@[simp] theorem Memory.read_write_other (m : Memory) (a b : Nat) (v : Byte) (h : b ≠ a) : (m.write a v).read b = m.read b := by
  simp [Memory.read_write, h]

/-! ## Which cells a write can list -/

theorem Memory.mem_erase {m : Memory} {a : Nat} {c : Host.Cell} (h : c ∈ m.erase a) : c ∈ m := by
  induction m with
  | nil => exact h
  | cons d rest ih =>
    simp only [Memory.erase] at h
    split at h
    · exact List.mem_cons_of_mem _ (ih h)
    · rcases List.mem_cons.mp h with rfl | h
      · exact List.mem_cons_self ..
      · exact List.mem_cons_of_mem _ (ih h)

theorem Memory.mem_insert {m : Memory} {a : Nat} {v : Byte} {c : Host.Cell} (h : c ∈ m.insert a v) : c = (a, v) ∨ c ∈ m := by
  induction m with
  | nil => simpa [Memory.insert] using h
  | cons d rest ih =>
    simp only [Memory.insert] at h
    split at h
    · rcases List.mem_cons.mp h with rfl | h
      · exact .inl rfl
      · exact .inr h
    · rcases List.mem_cons.mp h with rfl | h
      · exact .inr (List.mem_cons_self ..)
      · exact (ih h).imp id (List.mem_cons_of_mem _)

/-- A cell of a written memory is the written one, which is not the unlisted byte, or an old one. -/
theorem Memory.mem_write {m : Memory} {a : Nat} {v : Byte} {c : Host.Cell} (h : c ∈ m.write a v) : c = (a, v) ∨ c ∈ m := by
  unfold Memory.write at h
  split at h
  · exact .inr (Memory.mem_erase h)
  · exact (Memory.mem_insert h).imp id Memory.mem_erase

/-! ## The canonical form -/

theorem Memory.wf_cons (k : Nat) (v : Byte) (rest : Memory) :
    Memory.wf ((k, v) :: rest) = true ↔ v ≠ Memory.unlisted ∧ (∀ c ∈ rest, k < c.1) ∧ Memory.wf rest = true := by
  simp [Memory.wf, and_assoc]

theorem Memory.wf_erase (m : Memory) (a : Nat) (h : m.wf = true) : (m.erase a).wf = true := by
  induction m with
  | nil => rfl
  | cons c rest ih =>
    obtain ⟨hv, hk, hr⟩ := (Memory.wf_cons c.1 c.2 rest).mp h
    simp only [Memory.erase]
    split
    · exact ih hr
    · exact (Memory.wf_cons _ _ _).mpr ⟨hv, fun d hd => hk d (Memory.mem_erase hd), ih hr⟩

theorem Memory.wf_insert (m : Memory) (a : Nat) (v : Byte) (h : m.wf = true) (hv : v ≠ Memory.unlisted) (ha : ∀ c ∈ m, c.1 ≠ a) :
    (m.insert a v).wf = true := by
  induction m with
  | nil => simp [Memory.insert, Memory.wf, hv]
  | cons c rest ih =>
    obtain ⟨hcv, hk, hr⟩ := (Memory.wf_cons c.1 c.2 rest).mp h
    simp only [Memory.insert]
    split
    · next hlt =>
      refine (Memory.wf_cons _ _ _).mpr ⟨hv, fun d hd => ?_, h⟩
      rcases List.mem_cons.mp hd with rfl | hd
      · exact hlt
      · exact Nat.lt_trans hlt (hk d hd)
    · next hlt =>
      have hne : c.1 ≠ a := ha c (List.mem_cons_self ..)
      refine (Memory.wf_cons _ _ _).mpr ⟨hcv, fun d hd => ?_, ih hr fun d hd => ha d (List.mem_cons_of_mem _ hd)⟩
      rcases Memory.mem_insert hd with rfl | hd
      · exact Nat.lt_of_le_of_ne (Nat.le_of_not_lt hlt) hne
      · exact hk d hd

/-- Every write keeps the canonical form. -/
theorem Memory.wf_write (m : Memory) (a : Nat) (v : Byte) (h : m.wf = true) : (m.write a v).wf = true := by
  unfold Memory.write
  split
  · exact Memory.wf_erase m a h
  · next hv => exact Memory.wf_insert _ a v (Memory.wf_erase m a h) hv (Memory.not_mem_erase m a)

/-! ## Memories from byte lists -/

theorem Memory.ofBytes_cells (bytes : List Byte) (a : Nat) : ∀ c ∈ Memory.ofBytes bytes a, a ≤ c.1 := by
  induction bytes generalizing a with
  | nil => simp [Memory.ofBytes]
  | cons v rest ih =>
    intro c hc
    simp only [Memory.ofBytes] at hc
    split at hc
    · exact Nat.le_of_succ_le (ih (a + 1) c hc)
    · rcases List.mem_cons.mp hc with rfl | hc
      · exact Nat.le_refl a
      · exact Nat.le_of_succ_le (ih (a + 1) c hc)

theorem Memory.wf_ofBytes (bytes : List Byte) (a : Nat) : (Memory.ofBytes bytes a).wf = true := by
  induction bytes generalizing a with
  | nil => rfl
  | cons v rest ih =>
    simp only [Memory.ofBytes]
    split
    · exact ih (a + 1)
    · next hv => exact (Memory.wf_cons _ _ _).mpr ⟨hv, fun c hc => Memory.ofBytes_cells rest (a + 1) c hc, ih (a + 1)⟩

theorem Memory.read_below (m : Memory) (a : Nat) (h : ∀ c ∈ m, a < c.1) : m.read a = Memory.unlisted := by
  induction m with
  | nil => rfl
  | cons c rest ih =>
    have hc : c.1 ≠ a := Nat.ne_of_gt (h c (List.mem_cons_self ..))
    simp [Memory.read, hc, ih fun d hd => h d (List.mem_cons_of_mem _ hd)]

/-- The memory of a byte list reads byte `k` at `a + k`. -/
theorem Memory.read_ofBytes (bytes : List Byte) (a k : Nat) (h : k < bytes.length) : (Memory.ofBytes bytes a).read (a + k) = bytes[k] := by
  induction bytes generalizing a k with
  | nil => simp at h
  | cons v rest ih =>
    cases k with
    | zero =>
      simp only [Memory.ofBytes, Nat.add_zero, List.getElem_cons_zero]
      split
      · next hv => rw [hv, Memory.read_below _ a fun c hc => Memory.ofBytes_cells rest (a + 1) c hc]
      · simp [Memory.read]
    | succ k =>
      have hk : k < rest.length := by simpa using h
      have e : a + (k + 1) = a + 1 + k := by omega
      have hne : a ≠ a + 1 + k := by omega
      simp only [Memory.ofBytes, List.getElem_cons_succ, e]
      split
      · exact ih (a + 1) k hk
      · simp [Memory.read, hne, ih (a + 1) k hk]

/-! ## Equal reads, equal lists -/

theorem Memory.read_head (k : Nat) (v : Byte) (rest : Memory) : Memory.read ((k, v) :: rest) k = v := by
  simp [Memory.read]

/-- In canonical form a memory is determined by what its addresses read as. -/
theorem Memory.eq_of_read_eq (m n : Memory) (hm : m.wf = true) (hn : n.wf = true) (h : ∀ a, m.read a = n.read a) : m = n := by
  induction m generalizing n with
  | nil =>
    cases n with
    | nil => rfl
    | cons d rest =>
      obtain ⟨hv, -, -⟩ := (Memory.wf_cons d.1 d.2 rest).mp hn
      exact absurd ((h d.1).symm.trans rfl) (by rw [Memory.read_head]; exact hv)
  | cons c rest ih =>
    obtain ⟨hcv, hck, hcr⟩ := (Memory.wf_cons c.1 c.2 rest).mp hm
    cases n with
    | nil => exact absurd (h c.1) (by rw [Memory.read_head]; exact hcv)
    | cons d rest' =>
      obtain ⟨hdv, hdk, hdr⟩ := (Memory.wf_cons d.1 d.2 rest').mp hn
      have keys : c.1 = d.1 := by
        rcases Nat.lt_trichotomy c.1 d.1 with hlt | heq | hgt
        · have hb : Memory.read (d :: rest') c.1 = Memory.unlisted := by
            apply Memory.read_below
            intro e he
            rcases List.mem_cons.mp he with rfl | he
            · exact hlt
            · exact Nat.lt_trans hlt (hdk e he)
          have := h c.1
          rw [Memory.read_head, hb] at this
          exact absurd this hcv
        · exact heq
        · have hb : Memory.read (c :: rest) d.1 = Memory.unlisted := by
            apply Memory.read_below
            intro e he
            rcases List.mem_cons.mp he with rfl | he
            · exact hgt
            · exact Nat.lt_trans hgt (hck e he)
          have := h d.1
          rw [Memory.read_head, hb] at this
          exact absurd this.symm hdv
      have vals : c.2 = d.2 := by
        have := h c.1
        rwa [Memory.read_head, keys, Memory.read_head] at this
      have tails : rest = rest' := by
        apply ih rest' hcr hdr
        intro a
        have ha := h a
        by_cases e : c.1 = a
        · rw [Memory.read_below rest a fun x hx => e ▸ hck x hx, Memory.read_below rest' a fun x hx => e ▸ keys ▸ hdk x hx]
        · have e' : d.1 ≠ a := keys ▸ e
          simpa [Memory.read, e, e'] using ha
      rw [Prod.ext keys vals, tails]

end Sys2Proof.Machine
end

