-- ==== Sys2Proof/Laws/State.lean ====
section
/-! SUPPORT. One lemma per field of State for each small update function: the new value, or that the field is kept. -/

namespace Sys2Proof.Machine

/-! ## setReg: `r <- v` -/

@[simp] theorem setReg_cpu_f (r : Reg8) (v : Byte) (s : State) : (setReg r v s).cpu.f = s.cpu.f := by
  cases r <;> rfl
@[simp] theorem setReg_cpu_sp (r : Reg8) (v : Byte) (s : State) : (setReg r v s).cpu.sp = s.cpu.sp := by
  cases r <;> rfl
@[simp] theorem setReg_cpu_pc (r : Reg8) (v : Byte) (s : State) : (setReg r v s).cpu.pc = s.cpu.pc := by
  cases r <;> rfl
@[simp] theorem setReg_cpu_halted (r : Reg8) (v : Byte) (s : State) : (setReg r v s).cpu.halted = s.cpu.halted := by
  cases r <;> rfl
@[simp] theorem setReg_cpu_stopped (r : Reg8) (v : Byte) (s : State) : (setReg r v s).cpu.stopped = s.cpu.stopped := by
  cases r <;> rfl
@[simp] theorem setReg_cpu_imePending (r : Reg8) (v : Byte) (s : State) : (setReg r v s).cpu.imePending = s.cpu.imePending := by
  cases r <;> rfl
@[simp] theorem setReg_ints (r : Reg8) (v : Byte) (s : State) : (setReg r v s).ints = s.ints := by
  cases r <;> rfl
@[simp] theorem setReg_timer (r : Reg8) (v : Byte) (s : State) : (setReg r v s).timer = s.timer := by
  cases r <;> rfl
@[simp] theorem setReg_ppu (r : Reg8) (v : Byte) (s : State) : (setReg r v s).ppu = s.ppu := by
  cases r <;> rfl
@[simp] theorem setReg_mem (r : Reg8) (v : Byte) (s : State) : (setReg r v s).mem = s.mem := by
  cases r <;> rfl
@[simp] theorem setReg_cart (r : Reg8) (v : Byte) (s : State) : (setReg r v s).cart = s.cart := by
  cases r <;> rfl
@[simp] theorem setReg_joypad (r : Reg8) (v : Byte) (s : State) : (setReg r v s).joypad = s.joypad := by
  cases r <;> rfl
@[simp] theorem setReg_params (r : Reg8) (v : Byte) (s : State) : (setReg r v s).params = s.params := by
  cases r <;> rfl
@[simp] theorem setReg_cycles (r : Reg8) (v : Byte) (s : State) : (setReg r v s).cycles = s.cycles := by
  cases r <;> rfl
@[simp] theorem setReg_hostActs (r : Reg8) (v : Byte) (s : State) : (setReg r v s).hostActs = s.hostActs := by
  cases r <;> rfl
@[simp] theorem setReg_handedFrame (r : Reg8) (v : Byte) (s : State) : (setReg r v s).handedFrame = s.handedFrame := by
  cases r <;> rfl

/-! ## setHL: `HL <- w` -/

@[simp] theorem setHL_cpu_a (w : Word) (s : State) : (setHL w s).cpu.a = s.cpu.a := rfl
@[simp] theorem setHL_cpu_f (w : Word) (s : State) : (setHL w s).cpu.f = s.cpu.f := rfl
@[simp] theorem setHL_cpu_b (w : Word) (s : State) : (setHL w s).cpu.b = s.cpu.b := rfl
@[simp] theorem setHL_cpu_c (w : Word) (s : State) : (setHL w s).cpu.c = s.cpu.c := rfl
@[simp] theorem setHL_cpu_d (w : Word) (s : State) : (setHL w s).cpu.d = s.cpu.d := rfl
@[simp] theorem setHL_cpu_e (w : Word) (s : State) : (setHL w s).cpu.e = s.cpu.e := rfl
@[simp] theorem setHL_cpu_h (w : Word) (s : State) : (setHL w s).cpu.h = hiByte w := rfl
@[simp] theorem setHL_cpu_l (w : Word) (s : State) : (setHL w s).cpu.l = loByte w := rfl
@[simp] theorem setHL_cpu_sp (w : Word) (s : State) : (setHL w s).cpu.sp = s.cpu.sp := rfl
@[simp] theorem setHL_cpu_pc (w : Word) (s : State) : (setHL w s).cpu.pc = s.cpu.pc := rfl
@[simp] theorem setHL_cpu_halted (w : Word) (s : State) : (setHL w s).cpu.halted = s.cpu.halted := rfl
@[simp] theorem setHL_cpu_stopped (w : Word) (s : State) : (setHL w s).cpu.stopped = s.cpu.stopped := rfl
@[simp] theorem setHL_cpu_imePending (w : Word) (s : State) : (setHL w s).cpu.imePending = s.cpu.imePending := rfl
@[simp] theorem setHL_ints (w : Word) (s : State) : (setHL w s).ints = s.ints := rfl
@[simp] theorem setHL_timer (w : Word) (s : State) : (setHL w s).timer = s.timer := rfl
@[simp] theorem setHL_ppu (w : Word) (s : State) : (setHL w s).ppu = s.ppu := rfl
@[simp] theorem setHL_mem (w : Word) (s : State) : (setHL w s).mem = s.mem := rfl
@[simp] theorem setHL_cart (w : Word) (s : State) : (setHL w s).cart = s.cart := rfl
@[simp] theorem setHL_joypad (w : Word) (s : State) : (setHL w s).joypad = s.joypad := rfl
@[simp] theorem setHL_params (w : Word) (s : State) : (setHL w s).params = s.params := rfl
@[simp] theorem setHL_cycles (w : Word) (s : State) : (setHL w s).cycles = s.cycles := rfl
@[simp] theorem setHL_hostActs (w : Word) (s : State) : (setHL w s).hostActs = s.hostActs := rfl
@[simp] theorem setHL_handedFrame (w : Word) (s : State) : (setHL w s).handedFrame = s.handedFrame := rfl

/-! ## setPc: `PC <- w` -/

@[simp] theorem setPc_cpu_a (w : Word) (s : State) : (setPc w s).cpu.a = s.cpu.a := rfl
@[simp] theorem setPc_cpu_f (w : Word) (s : State) : (setPc w s).cpu.f = s.cpu.f := rfl
@[simp] theorem setPc_cpu_b (w : Word) (s : State) : (setPc w s).cpu.b = s.cpu.b := rfl
@[simp] theorem setPc_cpu_c (w : Word) (s : State) : (setPc w s).cpu.c = s.cpu.c := rfl
@[simp] theorem setPc_cpu_d (w : Word) (s : State) : (setPc w s).cpu.d = s.cpu.d := rfl
@[simp] theorem setPc_cpu_e (w : Word) (s : State) : (setPc w s).cpu.e = s.cpu.e := rfl
@[simp] theorem setPc_cpu_h (w : Word) (s : State) : (setPc w s).cpu.h = s.cpu.h := rfl
@[simp] theorem setPc_cpu_l (w : Word) (s : State) : (setPc w s).cpu.l = s.cpu.l := rfl
@[simp] theorem setPc_cpu_sp (w : Word) (s : State) : (setPc w s).cpu.sp = s.cpu.sp := rfl
@[simp] theorem setPc_cpu_pc (w : Word) (s : State) : (setPc w s).cpu.pc = w := rfl
@[simp] theorem setPc_cpu_halted (w : Word) (s : State) : (setPc w s).cpu.halted = s.cpu.halted := rfl
@[simp] theorem setPc_cpu_stopped (w : Word) (s : State) : (setPc w s).cpu.stopped = s.cpu.stopped := rfl
@[simp] theorem setPc_cpu_imePending (w : Word) (s : State) : (setPc w s).cpu.imePending = s.cpu.imePending := rfl
@[simp] theorem setPc_ints (w : Word) (s : State) : (setPc w s).ints = s.ints := rfl
@[simp] theorem setPc_timer (w : Word) (s : State) : (setPc w s).timer = s.timer := rfl
@[simp] theorem setPc_ppu (w : Word) (s : State) : (setPc w s).ppu = s.ppu := rfl
@[simp] theorem setPc_mem (w : Word) (s : State) : (setPc w s).mem = s.mem := rfl
@[simp] theorem setPc_cart (w : Word) (s : State) : (setPc w s).cart = s.cart := rfl
@[simp] theorem setPc_joypad (w : Word) (s : State) : (setPc w s).joypad = s.joypad := rfl
@[simp] theorem setPc_params (w : Word) (s : State) : (setPc w s).params = s.params := rfl
@[simp] theorem setPc_cycles (w : Word) (s : State) : (setPc w s).cycles = s.cycles := rfl
@[simp] theorem setPc_hostActs (w : Word) (s : State) : (setPc w s).hostActs = s.hostActs := rfl
@[simp] theorem setPc_handedFrame (w : Word) (s : State) : (setPc w s).handedFrame = s.handedFrame := rfl

/-! ## setSp: `SP <- w` -/

@[simp] theorem setSp_cpu_a (w : Word) (s : State) : (setSp w s).cpu.a = s.cpu.a := rfl
@[simp] theorem setSp_cpu_f (w : Word) (s : State) : (setSp w s).cpu.f = s.cpu.f := rfl
@[simp] theorem setSp_cpu_b (w : Word) (s : State) : (setSp w s).cpu.b = s.cpu.b := rfl
@[simp] theorem setSp_cpu_c (w : Word) (s : State) : (setSp w s).cpu.c = s.cpu.c := rfl
@[simp] theorem setSp_cpu_d (w : Word) (s : State) : (setSp w s).cpu.d = s.cpu.d := rfl
@[simp] theorem setSp_cpu_e (w : Word) (s : State) : (setSp w s).cpu.e = s.cpu.e := rfl
@[simp] theorem setSp_cpu_h (w : Word) (s : State) : (setSp w s).cpu.h = s.cpu.h := rfl
@[simp] theorem setSp_cpu_l (w : Word) (s : State) : (setSp w s).cpu.l = s.cpu.l := rfl
@[simp] theorem setSp_cpu_sp (w : Word) (s : State) : (setSp w s).cpu.sp = w := rfl
@[simp] theorem setSp_cpu_pc (w : Word) (s : State) : (setSp w s).cpu.pc = s.cpu.pc := rfl
@[simp] theorem setSp_cpu_halted (w : Word) (s : State) : (setSp w s).cpu.halted = s.cpu.halted := rfl
@[simp] theorem setSp_cpu_stopped (w : Word) (s : State) : (setSp w s).cpu.stopped = s.cpu.stopped := rfl
@[simp] theorem setSp_cpu_imePending (w : Word) (s : State) : (setSp w s).cpu.imePending = s.cpu.imePending := rfl
@[simp] theorem setSp_ints (w : Word) (s : State) : (setSp w s).ints = s.ints := rfl
@[simp] theorem setSp_timer (w : Word) (s : State) : (setSp w s).timer = s.timer := rfl
@[simp] theorem setSp_ppu (w : Word) (s : State) : (setSp w s).ppu = s.ppu := rfl
@[simp] theorem setSp_mem (w : Word) (s : State) : (setSp w s).mem = s.mem := rfl
@[simp] theorem setSp_cart (w : Word) (s : State) : (setSp w s).cart = s.cart := rfl
@[simp] theorem setSp_joypad (w : Word) (s : State) : (setSp w s).joypad = s.joypad := rfl
@[simp] theorem setSp_params (w : Word) (s : State) : (setSp w s).params = s.params := rfl
@[simp] theorem setSp_cycles (w : Word) (s : State) : (setSp w s).cycles = s.cycles := rfl
@[simp] theorem setSp_hostActs (w : Word) (s : State) : (setSp w s).hostActs = s.hostActs := rfl
@[simp] theorem setSp_handedFrame (w : Word) (s : State) : (setSp w s).handedFrame = s.handedFrame := rfl

/-! ## setF: `F <- v` -/

@[simp] theorem setF_cpu_a (v : Byte) (s : State) : (setF v s).cpu.a = s.cpu.a := rfl
@[simp] theorem setF_cpu_f (v : Byte) (s : State) : (setF v s).cpu.f = v &&& 0xF0 := rfl
@[simp] theorem setF_cpu_b (v : Byte) (s : State) : (setF v s).cpu.b = s.cpu.b := rfl
@[simp] theorem setF_cpu_c (v : Byte) (s : State) : (setF v s).cpu.c = s.cpu.c := rfl
@[simp] theorem setF_cpu_d (v : Byte) (s : State) : (setF v s).cpu.d = s.cpu.d := rfl
@[simp] theorem setF_cpu_e (v : Byte) (s : State) : (setF v s).cpu.e = s.cpu.e := rfl
@[simp] theorem setF_cpu_h (v : Byte) (s : State) : (setF v s).cpu.h = s.cpu.h := rfl
@[simp] theorem setF_cpu_l (v : Byte) (s : State) : (setF v s).cpu.l = s.cpu.l := rfl
@[simp] theorem setF_cpu_sp (v : Byte) (s : State) : (setF v s).cpu.sp = s.cpu.sp := rfl
@[simp] theorem setF_cpu_pc (v : Byte) (s : State) : (setF v s).cpu.pc = s.cpu.pc := rfl
@[simp] theorem setF_cpu_halted (v : Byte) (s : State) : (setF v s).cpu.halted = s.cpu.halted := rfl
@[simp] theorem setF_cpu_stopped (v : Byte) (s : State) : (setF v s).cpu.stopped = s.cpu.stopped := rfl
@[simp] theorem setF_cpu_imePending (v : Byte) (s : State) : (setF v s).cpu.imePending = s.cpu.imePending := rfl
@[simp] theorem setF_ints (v : Byte) (s : State) : (setF v s).ints = s.ints := rfl
@[simp] theorem setF_timer (v : Byte) (s : State) : (setF v s).timer = s.timer := rfl
@[simp] theorem setF_ppu (v : Byte) (s : State) : (setF v s).ppu = s.ppu := rfl
@[simp] theorem setF_mem (v : Byte) (s : State) : (setF v s).mem = s.mem := rfl
@[simp] theorem setF_cart (v : Byte) (s : State) : (setF v s).cart = s.cart := rfl
@[simp] theorem setF_joypad (v : Byte) (s : State) : (setF v s).joypad = s.joypad := rfl
@[simp] theorem setF_params (v : Byte) (s : State) : (setF v s).params = s.params := rfl
@[simp] theorem setF_cycles (v : Byte) (s : State) : (setF v s).cycles = s.cycles := rfl
@[simp] theorem setF_hostActs (v : Byte) (s : State) : (setF v s).hostActs = s.hostActs := rfl
@[simp] theorem setF_handedFrame (v : Byte) (s : State) : (setF v s).handedFrame = s.handedFrame := rfl

/-! ## setPair: `rp[i] <- w` -/

@[simp] theorem setPair_cpu_a (p : Pair) (w : Word) (s : State) : (setPair p w s).cpu.a = s.cpu.a := by
  cases p <;> rfl
@[simp] theorem setPair_cpu_f (p : Pair) (w : Word) (s : State) : (setPair p w s).cpu.f = s.cpu.f := by
  cases p <;> rfl
@[simp] theorem setPair_cpu_pc (p : Pair) (w : Word) (s : State) : (setPair p w s).cpu.pc = s.cpu.pc := by
  cases p <;> rfl
@[simp] theorem setPair_cpu_halted (p : Pair) (w : Word) (s : State) : (setPair p w s).cpu.halted = s.cpu.halted := by
  cases p <;> rfl
@[simp] theorem setPair_cpu_stopped (p : Pair) (w : Word) (s : State) : (setPair p w s).cpu.stopped = s.cpu.stopped := by
  cases p <;> rfl
@[simp] theorem setPair_cpu_imePending (p : Pair) (w : Word) (s : State) : (setPair p w s).cpu.imePending = s.cpu.imePending := by
  cases p <;> rfl
@[simp] theorem setPair_ints (p : Pair) (w : Word) (s : State) : (setPair p w s).ints = s.ints := by
  cases p <;> rfl
@[simp] theorem setPair_timer (p : Pair) (w : Word) (s : State) : (setPair p w s).timer = s.timer := by
  cases p <;> rfl
@[simp] theorem setPair_ppu (p : Pair) (w : Word) (s : State) : (setPair p w s).ppu = s.ppu := by
  cases p <;> rfl
@[simp] theorem setPair_mem (p : Pair) (w : Word) (s : State) : (setPair p w s).mem = s.mem := by
  cases p <;> rfl
@[simp] theorem setPair_cart (p : Pair) (w : Word) (s : State) : (setPair p w s).cart = s.cart := by
  cases p <;> rfl
@[simp] theorem setPair_joypad (p : Pair) (w : Word) (s : State) : (setPair p w s).joypad = s.joypad := by
  cases p <;> rfl
@[simp] theorem setPair_params (p : Pair) (w : Word) (s : State) : (setPair p w s).params = s.params := by
  cases p <;> rfl
@[simp] theorem setPair_cycles (p : Pair) (w : Word) (s : State) : (setPair p w s).cycles = s.cycles := by
  cases p <;> rfl
@[simp] theorem setPair_hostActs (p : Pair) (w : Word) (s : State) : (setPair p w s).hostActs = s.hostActs := by
  cases p <;> rfl
@[simp] theorem setPair_handedFrame (p : Pair) (w : Word) (s : State) : (setPair p w s).handedFrame = s.handedFrame := by
  cases p <;> rfl

/-! ## setFlags: the four flags -/

@[simp] theorem setFlags_cpu_a (z n h c : Bool) (s : State) : (setFlags z n h c s).cpu.a = s.cpu.a := rfl
@[simp] theorem setFlags_cpu_f (z n h c : Bool) (s : State) : (setFlags z n h c s).cpu.f = packFlags z n h c := packFlags_mask z n h c
@[simp] theorem setFlags_cpu_b (z n h c : Bool) (s : State) : (setFlags z n h c s).cpu.b = s.cpu.b := rfl
@[simp] theorem setFlags_cpu_c (z n h c : Bool) (s : State) : (setFlags z n h c s).cpu.c = s.cpu.c := rfl
@[simp] theorem setFlags_cpu_d (z n h c : Bool) (s : State) : (setFlags z n h c s).cpu.d = s.cpu.d := rfl
@[simp] theorem setFlags_cpu_e (z n h c : Bool) (s : State) : (setFlags z n h c s).cpu.e = s.cpu.e := rfl
@[simp] theorem setFlags_cpu_h (z n h c : Bool) (s : State) : (setFlags z n h c s).cpu.h = s.cpu.h := rfl
@[simp] theorem setFlags_cpu_l (z n h c : Bool) (s : State) : (setFlags z n h c s).cpu.l = s.cpu.l := rfl
@[simp] theorem setFlags_cpu_sp (z n h c : Bool) (s : State) : (setFlags z n h c s).cpu.sp = s.cpu.sp := rfl
@[simp] theorem setFlags_cpu_pc (z n h c : Bool) (s : State) : (setFlags z n h c s).cpu.pc = s.cpu.pc := rfl
@[simp] theorem setFlags_cpu_halted (z n h c : Bool) (s : State) : (setFlags z n h c s).cpu.halted = s.cpu.halted := rfl
@[simp] theorem setFlags_cpu_stopped (z n h c : Bool) (s : State) : (setFlags z n h c s).cpu.stopped = s.cpu.stopped := rfl
@[simp] theorem setFlags_cpu_imePending (z n h c : Bool) (s : State) : (setFlags z n h c s).cpu.imePending = s.cpu.imePending := rfl
@[simp] theorem setFlags_ints (z n h c : Bool) (s : State) : (setFlags z n h c s).ints = s.ints := rfl
@[simp] theorem setFlags_timer (z n h c : Bool) (s : State) : (setFlags z n h c s).timer = s.timer := rfl
@[simp] theorem setFlags_ppu (z n h c : Bool) (s : State) : (setFlags z n h c s).ppu = s.ppu := rfl
@[simp] theorem setFlags_mem (z n h c : Bool) (s : State) : (setFlags z n h c s).mem = s.mem := rfl
@[simp] theorem setFlags_cart (z n h c : Bool) (s : State) : (setFlags z n h c s).cart = s.cart := rfl
@[simp] theorem setFlags_joypad (z n h c : Bool) (s : State) : (setFlags z n h c s).joypad = s.joypad := rfl
@[simp] theorem setFlags_params (z n h c : Bool) (s : State) : (setFlags z n h c s).params = s.params := rfl
@[simp] theorem setFlags_cycles (z n h c : Bool) (s : State) : (setFlags z n h c s).cycles = s.cycles := rfl
@[simp] theorem setFlags_hostActs (z n h c : Bool) (s : State) : (setFlags z n h c s).hostActs = s.hostActs := rfl
@[simp] theorem setFlags_handedFrame (z n h c : Bool) (s : State) : (setFlags z n h c s).handedFrame = s.handedFrame := rfl

/-! ## setAluFlags: a result's flags -/

@[simp] theorem setAluFlags_cpu_a (r : Alu) (s : State) : (setAluFlags r s).cpu.a = s.cpu.a := rfl
@[simp] theorem setAluFlags_cpu_f (r : Alu) (s : State) : (setAluFlags r s).cpu.f = packFlags r.z r.n r.h r.c := packFlags_mask r.z r.n r.h r.c
@[simp] theorem setAluFlags_cpu_b (r : Alu) (s : State) : (setAluFlags r s).cpu.b = s.cpu.b := rfl
@[simp] theorem setAluFlags_cpu_c (r : Alu) (s : State) : (setAluFlags r s).cpu.c = s.cpu.c := rfl
@[simp] theorem setAluFlags_cpu_d (r : Alu) (s : State) : (setAluFlags r s).cpu.d = s.cpu.d := rfl
@[simp] theorem setAluFlags_cpu_e (r : Alu) (s : State) : (setAluFlags r s).cpu.e = s.cpu.e := rfl
@[simp] theorem setAluFlags_cpu_h (r : Alu) (s : State) : (setAluFlags r s).cpu.h = s.cpu.h := rfl
@[simp] theorem setAluFlags_cpu_l (r : Alu) (s : State) : (setAluFlags r s).cpu.l = s.cpu.l := rfl
@[simp] theorem setAluFlags_cpu_sp (r : Alu) (s : State) : (setAluFlags r s).cpu.sp = s.cpu.sp := rfl
@[simp] theorem setAluFlags_cpu_pc (r : Alu) (s : State) : (setAluFlags r s).cpu.pc = s.cpu.pc := rfl
@[simp] theorem setAluFlags_cpu_halted (r : Alu) (s : State) : (setAluFlags r s).cpu.halted = s.cpu.halted := rfl
@[simp] theorem setAluFlags_cpu_stopped (r : Alu) (s : State) : (setAluFlags r s).cpu.stopped = s.cpu.stopped := rfl
@[simp] theorem setAluFlags_cpu_imePending (r : Alu) (s : State) : (setAluFlags r s).cpu.imePending = s.cpu.imePending := rfl
@[simp] theorem setAluFlags_ints (r : Alu) (s : State) : (setAluFlags r s).ints = s.ints := rfl
@[simp] theorem setAluFlags_timer (r : Alu) (s : State) : (setAluFlags r s).timer = s.timer := rfl
@[simp] theorem setAluFlags_ppu (r : Alu) (s : State) : (setAluFlags r s).ppu = s.ppu := rfl
@[simp] theorem setAluFlags_mem (r : Alu) (s : State) : (setAluFlags r s).mem = s.mem := rfl
@[simp] theorem setAluFlags_cart (r : Alu) (s : State) : (setAluFlags r s).cart = s.cart := rfl
@[simp] theorem setAluFlags_joypad (r : Alu) (s : State) : (setAluFlags r s).joypad = s.joypad := rfl
@[simp] theorem setAluFlags_params (r : Alu) (s : State) : (setAluFlags r s).params = s.params := rfl
@[simp] theorem setAluFlags_cycles (r : Alu) (s : State) : (setAluFlags r s).cycles = s.cycles := rfl
@[simp] theorem setAluFlags_hostActs (r : Alu) (s : State) : (setAluFlags r s).hostActs = s.hostActs := rfl
@[simp] theorem setAluFlags_handedFrame (r : Alu) (s : State) : (setAluFlags r s).handedFrame = s.handedFrame := rfl

/-! ## setStackPair: `rp2[i] <- w` -/

@[simp] theorem setStackPair_cpu_sp (p : StackPair) (w : Word) (s : State) : (setStackPair p w s).cpu.sp = s.cpu.sp := by
  cases p <;> rfl
@[simp] theorem setStackPair_cpu_pc (p : StackPair) (w : Word) (s : State) : (setStackPair p w s).cpu.pc = s.cpu.pc := by
  cases p <;> rfl
@[simp] theorem setStackPair_cpu_halted (p : StackPair) (w : Word) (s : State) : (setStackPair p w s).cpu.halted = s.cpu.halted := by
  cases p <;> rfl
@[simp] theorem setStackPair_cpu_stopped (p : StackPair) (w : Word) (s : State) : (setStackPair p w s).cpu.stopped = s.cpu.stopped := by
  cases p <;> rfl
@[simp] theorem setStackPair_cpu_imePending (p : StackPair) (w : Word) (s : State) : (setStackPair p w s).cpu.imePending = s.cpu.imePending := by
  cases p <;> rfl
@[simp] theorem setStackPair_ints (p : StackPair) (w : Word) (s : State) : (setStackPair p w s).ints = s.ints := by
  cases p <;> rfl
@[simp] theorem setStackPair_timer (p : StackPair) (w : Word) (s : State) : (setStackPair p w s).timer = s.timer := by
  cases p <;> rfl
@[simp] theorem setStackPair_ppu (p : StackPair) (w : Word) (s : State) : (setStackPair p w s).ppu = s.ppu := by
  cases p <;> rfl
@[simp] theorem setStackPair_mem (p : StackPair) (w : Word) (s : State) : (setStackPair p w s).mem = s.mem := by
  cases p <;> rfl
@[simp] theorem setStackPair_cart (p : StackPair) (w : Word) (s : State) : (setStackPair p w s).cart = s.cart := by
  cases p <;> rfl
@[simp] theorem setStackPair_joypad (p : StackPair) (w : Word) (s : State) : (setStackPair p w s).joypad = s.joypad := by
  cases p <;> rfl
@[simp] theorem setStackPair_params (p : StackPair) (w : Word) (s : State) : (setStackPair p w s).params = s.params := by
  cases p <;> rfl
@[simp] theorem setStackPair_cycles (p : StackPair) (w : Word) (s : State) : (setStackPair p w s).cycles = s.cycles := by
  cases p <;> rfl
@[simp] theorem setStackPair_hostActs (p : StackPair) (w : Word) (s : State) : (setStackPair p w s).hostActs = s.hostActs := by
  cases p <;> rfl
@[simp] theorem setStackPair_handedFrame (p : StackPair) (w : Word) (s : State) : (setStackPair p w s).handedFrame = s.handedFrame := by
  cases p <;> rfl

/-! ## wake: the halt wake -/

@[simp] theorem wake_cpu_a (s : State) : (wake s).cpu.a = s.cpu.a := rfl
@[simp] theorem wake_cpu_f (s : State) : (wake s).cpu.f = s.cpu.f := rfl
@[simp] theorem wake_cpu_b (s : State) : (wake s).cpu.b = s.cpu.b := rfl
@[simp] theorem wake_cpu_c (s : State) : (wake s).cpu.c = s.cpu.c := rfl
@[simp] theorem wake_cpu_d (s : State) : (wake s).cpu.d = s.cpu.d := rfl
@[simp] theorem wake_cpu_e (s : State) : (wake s).cpu.e = s.cpu.e := rfl
@[simp] theorem wake_cpu_h (s : State) : (wake s).cpu.h = s.cpu.h := rfl
@[simp] theorem wake_cpu_l (s : State) : (wake s).cpu.l = s.cpu.l := rfl
@[simp] theorem wake_cpu_sp (s : State) : (wake s).cpu.sp = s.cpu.sp := rfl
@[simp] theorem wake_cpu_pc (s : State) : (wake s).cpu.pc = s.cpu.pc := rfl
@[simp] theorem wake_cpu_halted (s : State) : (wake s).cpu.halted = false := rfl
@[simp] theorem wake_cpu_stopped (s : State) : (wake s).cpu.stopped = s.cpu.stopped := rfl
@[simp] theorem wake_cpu_imePending (s : State) : (wake s).cpu.imePending = s.cpu.imePending := rfl
@[simp] theorem wake_ints (s : State) : (wake s).ints = s.ints := rfl
@[simp] theorem wake_timer (s : State) : (wake s).timer = s.timer := rfl
@[simp] theorem wake_ppu (s : State) : (wake s).ppu = s.ppu := rfl
@[simp] theorem wake_mem (s : State) : (wake s).mem = s.mem := rfl
@[simp] theorem wake_cart (s : State) : (wake s).cart = s.cart := rfl
@[simp] theorem wake_joypad (s : State) : (wake s).joypad = s.joypad := rfl
@[simp] theorem wake_params (s : State) : (wake s).params = s.params := rfl
@[simp] theorem wake_cycles (s : State) : (wake s).cycles = s.cycles := rfl
@[simp] theorem wake_hostActs (s : State) : (wake s).hostActs = s.hostActs := rfl
@[simp] theorem wake_handedFrame (s : State) : (wake s).handedFrame = s.handedFrame := rfl

/-! ## acknowledge: acknowledging interrupt i -/

@[simp] theorem acknowledge_cpu_a (i : Nat) (s : State) : (acknowledge i s).cpu.a = s.cpu.a := rfl
@[simp] theorem acknowledge_cpu_f (i : Nat) (s : State) : (acknowledge i s).cpu.f = s.cpu.f := rfl
@[simp] theorem acknowledge_cpu_b (i : Nat) (s : State) : (acknowledge i s).cpu.b = s.cpu.b := rfl
@[simp] theorem acknowledge_cpu_c (i : Nat) (s : State) : (acknowledge i s).cpu.c = s.cpu.c := rfl
@[simp] theorem acknowledge_cpu_d (i : Nat) (s : State) : (acknowledge i s).cpu.d = s.cpu.d := rfl
@[simp] theorem acknowledge_cpu_e (i : Nat) (s : State) : (acknowledge i s).cpu.e = s.cpu.e := rfl
@[simp] theorem acknowledge_cpu_h (i : Nat) (s : State) : (acknowledge i s).cpu.h = s.cpu.h := rfl
@[simp] theorem acknowledge_cpu_l (i : Nat) (s : State) : (acknowledge i s).cpu.l = s.cpu.l := rfl
@[simp] theorem acknowledge_cpu_sp (i : Nat) (s : State) : (acknowledge i s).cpu.sp = s.cpu.sp := rfl
@[simp] theorem acknowledge_cpu_pc (i : Nat) (s : State) : (acknowledge i s).cpu.pc = s.cpu.pc := rfl
@[simp] theorem acknowledge_cpu_halted (i : Nat) (s : State) : (acknowledge i s).cpu.halted = false := rfl
@[simp] theorem acknowledge_cpu_stopped (i : Nat) (s : State) : (acknowledge i s).cpu.stopped = s.cpu.stopped := rfl
@[simp] theorem acknowledge_cpu_imePending (i : Nat) (s : State) : (acknowledge i s).cpu.imePending = .none := rfl
@[simp] theorem acknowledge_ints_ime (i : Nat) (s : State) : (acknowledge i s).ints.ime = false := rfl
@[simp] theorem acknowledge_ints_iflag (i : Nat) (s : State) : (acknowledge i s).ints.iflag = s.ints.iflag &&& (0xFF ^^^ BitVec.ofNat 8 (2 ^ i)) := rfl
@[simp] theorem acknowledge_ints_ie (i : Nat) (s : State) : (acknowledge i s).ints.ie = s.ints.ie := rfl
@[simp] theorem acknowledge_timer (i : Nat) (s : State) : (acknowledge i s).timer = s.timer := rfl
@[simp] theorem acknowledge_ppu (i : Nat) (s : State) : (acknowledge i s).ppu = s.ppu := rfl
@[simp] theorem acknowledge_mem (i : Nat) (s : State) : (acknowledge i s).mem = s.mem := rfl
@[simp] theorem acknowledge_cart (i : Nat) (s : State) : (acknowledge i s).cart = s.cart := rfl
@[simp] theorem acknowledge_joypad (i : Nat) (s : State) : (acknowledge i s).joypad = s.joypad := rfl
@[simp] theorem acknowledge_params (i : Nat) (s : State) : (acknowledge i s).params = s.params := rfl
@[simp] theorem acknowledge_cycles (i : Nat) (s : State) : (acknowledge i s).cycles = s.cycles := rfl
@[simp] theorem acknowledge_hostActs (i : Nat) (s : State) : (acknowledge i s).hostActs = s.hostActs := rfl
@[simp] theorem acknowledge_handedFrame (i : Nat) (s : State) : (acknowledge i s).handedFrame = s.handedFrame := rfl

/-! ## requestInterrupt: requesting interrupt i -/

@[simp] theorem requestInterrupt_cpu (i : Nat) (s : State) : (requestInterrupt i s).cpu = s.cpu := rfl
@[simp] theorem requestInterrupt_ints_ime (i : Nat) (s : State) : (requestInterrupt i s).ints.ime = s.ints.ime := rfl
@[simp] theorem requestInterrupt_ints_iflag (i : Nat) (s : State) : (requestInterrupt i s).ints.iflag = s.ints.iflag ||| BitVec.ofNat 8 (2 ^ i) := rfl
@[simp] theorem requestInterrupt_ints_ie (i : Nat) (s : State) : (requestInterrupt i s).ints.ie = s.ints.ie := rfl
@[simp] theorem requestInterrupt_timer (i : Nat) (s : State) : (requestInterrupt i s).timer = s.timer := rfl
@[simp] theorem requestInterrupt_ppu (i : Nat) (s : State) : (requestInterrupt i s).ppu = s.ppu := rfl
@[simp] theorem requestInterrupt_mem (i : Nat) (s : State) : (requestInterrupt i s).mem = s.mem := rfl
@[simp] theorem requestInterrupt_cart (i : Nat) (s : State) : (requestInterrupt i s).cart = s.cart := rfl
@[simp] theorem requestInterrupt_joypad (i : Nat) (s : State) : (requestInterrupt i s).joypad = s.joypad := rfl
@[simp] theorem requestInterrupt_params (i : Nat) (s : State) : (requestInterrupt i s).params = s.params := rfl
@[simp] theorem requestInterrupt_cycles (i : Nat) (s : State) : (requestInterrupt i s).cycles = s.cycles := rfl
@[simp] theorem requestInterrupt_hostActs (i : Nat) (s : State) : (requestInterrupt i s).hostActs = s.hostActs := rfl
@[simp] theorem requestInterrupt_handedFrame (i : Nat) (s : State) : (requestInterrupt i s).handedFrame = s.handedFrame := rfl

/-! ## setCell: `M[a] <- v` -/

@[simp] theorem setCell_cpu (a : Nat) (v : Byte) (s : State) : (setCell a v s).cpu = s.cpu := rfl
@[simp] theorem setCell_ints (a : Nat) (v : Byte) (s : State) : (setCell a v s).ints = s.ints := rfl
@[simp] theorem setCell_timer (a : Nat) (v : Byte) (s : State) : (setCell a v s).timer = s.timer := rfl
@[simp] theorem setCell_ppu (a : Nat) (v : Byte) (s : State) : (setCell a v s).ppu = s.ppu := rfl
@[simp] theorem setCell_mem (a : Nat) (v : Byte) (s : State) : (setCell a v s).mem = s.mem.write a v := rfl
@[simp] theorem setCell_cart (a : Nat) (v : Byte) (s : State) : (setCell a v s).cart = s.cart := rfl
@[simp] theorem setCell_joypad (a : Nat) (v : Byte) (s : State) : (setCell a v s).joypad = s.joypad := rfl
@[simp] theorem setCell_params (a : Nat) (v : Byte) (s : State) : (setCell a v s).params = s.params := rfl
@[simp] theorem setCell_cycles (a : Nat) (v : Byte) (s : State) : (setCell a v s).cycles = s.cycles := rfl
@[simp] theorem setCell_hostActs (a : Nat) (v : Byte) (s : State) : (setCell a v s).hostActs = s.hostActs := rfl
@[simp] theorem setCell_handedFrame (a : Nat) (v : Byte) (s : State) : (setCell a v s).handedFrame = s.handedFrame := rfl

/-! ## setMode: a mode -/

@[simp] theorem setMode_cpu (m : Mode) (s : State) : (setMode m s).cpu = s.cpu := rfl
@[simp] theorem setMode_ints (m : Mode) (s : State) : (setMode m s).ints = s.ints := rfl
@[simp] theorem setMode_timer (m : Mode) (s : State) : (setMode m s).timer = s.timer := rfl
@[simp] theorem setMode_ppu_lcdc (m : Mode) (s : State) : (setMode m s).ppu.lcdc = s.ppu.lcdc := rfl
@[simp] theorem setMode_ppu_stat (m : Mode) (s : State) : (setMode m s).ppu.stat = (s.ppu.stat &&& 0xFC) ||| modeCode m := rfl
@[simp] theorem setMode_ppu_scy (m : Mode) (s : State) : (setMode m s).ppu.scy = s.ppu.scy := rfl
@[simp] theorem setMode_ppu_scx (m : Mode) (s : State) : (setMode m s).ppu.scx = s.ppu.scx := rfl
@[simp] theorem setMode_ppu_ly (m : Mode) (s : State) : (setMode m s).ppu.ly = s.ppu.ly := rfl
@[simp] theorem setMode_ppu_lyc (m : Mode) (s : State) : (setMode m s).ppu.lyc = s.ppu.lyc := rfl
@[simp] theorem setMode_ppu_dma (m : Mode) (s : State) : (setMode m s).ppu.dma = s.ppu.dma := rfl
@[simp] theorem setMode_ppu_bgp (m : Mode) (s : State) : (setMode m s).ppu.bgp = s.ppu.bgp := rfl
@[simp] theorem setMode_ppu_obp0 (m : Mode) (s : State) : (setMode m s).ppu.obp0 = s.ppu.obp0 := rfl
@[simp] theorem setMode_ppu_obp1 (m : Mode) (s : State) : (setMode m s).ppu.obp1 = s.ppu.obp1 := rfl
@[simp] theorem setMode_ppu_wy (m : Mode) (s : State) : (setMode m s).ppu.wy = s.ppu.wy := rfl
@[simp] theorem setMode_ppu_wx (m : Mode) (s : State) : (setMode m s).ppu.wx = s.ppu.wx := rfl
@[simp] theorem setMode_ppu_mode (m : Mode) (s : State) : (setMode m s).ppu.mode = m := rfl
@[simp] theorem setMode_ppu_acc (m : Mode) (s : State) : (setMode m s).ppu.acc = s.ppu.acc := rfl
@[simp] theorem setMode_ppu_fb (m : Mode) (s : State) : (setMode m s).ppu.fb = s.ppu.fb := rfl
@[simp] theorem setMode_mem (m : Mode) (s : State) : (setMode m s).mem = s.mem := rfl
@[simp] theorem setMode_cart (m : Mode) (s : State) : (setMode m s).cart = s.cart := rfl
@[simp] theorem setMode_joypad (m : Mode) (s : State) : (setMode m s).joypad = s.joypad := rfl
@[simp] theorem setMode_params (m : Mode) (s : State) : (setMode m s).params = s.params := rfl
@[simp] theorem setMode_cycles (m : Mode) (s : State) : (setMode m s).cycles = s.cycles := rfl
@[simp] theorem setMode_hostActs (m : Mode) (s : State) : (setMode m s).hostActs = s.hostActs := rfl
@[simp] theorem setMode_handedFrame (m : Mode) (s : State) : (setMode m s).handedFrame = s.handedFrame := rfl

/-! ## setAcc: `ppu_acc <- n` -/

@[simp] theorem setAcc_cpu (n : Nat) (s : State) : (setAcc n s).cpu = s.cpu := rfl
@[simp] theorem setAcc_ints (n : Nat) (s : State) : (setAcc n s).ints = s.ints := rfl
@[simp] theorem setAcc_timer (n : Nat) (s : State) : (setAcc n s).timer = s.timer := rfl
@[simp] theorem setAcc_ppu_lcdc (n : Nat) (s : State) : (setAcc n s).ppu.lcdc = s.ppu.lcdc := rfl
@[simp] theorem setAcc_ppu_stat (n : Nat) (s : State) : (setAcc n s).ppu.stat = s.ppu.stat := rfl
@[simp] theorem setAcc_ppu_scy (n : Nat) (s : State) : (setAcc n s).ppu.scy = s.ppu.scy := rfl
@[simp] theorem setAcc_ppu_scx (n : Nat) (s : State) : (setAcc n s).ppu.scx = s.ppu.scx := rfl
@[simp] theorem setAcc_ppu_ly (n : Nat) (s : State) : (setAcc n s).ppu.ly = s.ppu.ly := rfl
@[simp] theorem setAcc_ppu_lyc (n : Nat) (s : State) : (setAcc n s).ppu.lyc = s.ppu.lyc := rfl
@[simp] theorem setAcc_ppu_dma (n : Nat) (s : State) : (setAcc n s).ppu.dma = s.ppu.dma := rfl
@[simp] theorem setAcc_ppu_bgp (n : Nat) (s : State) : (setAcc n s).ppu.bgp = s.ppu.bgp := rfl
@[simp] theorem setAcc_ppu_obp0 (n : Nat) (s : State) : (setAcc n s).ppu.obp0 = s.ppu.obp0 := rfl
@[simp] theorem setAcc_ppu_obp1 (n : Nat) (s : State) : (setAcc n s).ppu.obp1 = s.ppu.obp1 := rfl
@[simp] theorem setAcc_ppu_wy (n : Nat) (s : State) : (setAcc n s).ppu.wy = s.ppu.wy := rfl
@[simp] theorem setAcc_ppu_wx (n : Nat) (s : State) : (setAcc n s).ppu.wx = s.ppu.wx := rfl
@[simp] theorem setAcc_ppu_mode (n : Nat) (s : State) : (setAcc n s).ppu.mode = s.ppu.mode := rfl
@[simp] theorem setAcc_ppu_acc (n : Nat) (s : State) : (setAcc n s).ppu.acc = n := rfl
@[simp] theorem setAcc_ppu_fb (n : Nat) (s : State) : (setAcc n s).ppu.fb = s.ppu.fb := rfl
@[simp] theorem setAcc_mem (n : Nat) (s : State) : (setAcc n s).mem = s.mem := rfl
@[simp] theorem setAcc_cart (n : Nat) (s : State) : (setAcc n s).cart = s.cart := rfl
@[simp] theorem setAcc_joypad (n : Nat) (s : State) : (setAcc n s).joypad = s.joypad := rfl
@[simp] theorem setAcc_params (n : Nat) (s : State) : (setAcc n s).params = s.params := rfl
@[simp] theorem setAcc_cycles (n : Nat) (s : State) : (setAcc n s).cycles = s.cycles := rfl
@[simp] theorem setAcc_hostActs (n : Nat) (s : State) : (setAcc n s).hostActs = s.hostActs := rfl
@[simp] theorem setAcc_handedFrame (n : Nat) (s : State) : (setAcc n s).handedFrame = s.handedFrame := rfl

/-! ## setLy: `LY <- v` -/

@[simp] theorem setLy_cpu (v : Byte) (s : State) : (setLy v s).cpu = s.cpu := rfl
@[simp] theorem setLy_ints (v : Byte) (s : State) : (setLy v s).ints = s.ints := rfl
@[simp] theorem setLy_timer (v : Byte) (s : State) : (setLy v s).timer = s.timer := rfl
@[simp] theorem setLy_ppu_lcdc (v : Byte) (s : State) : (setLy v s).ppu.lcdc = s.ppu.lcdc := rfl
@[simp] theorem setLy_ppu_stat (v : Byte) (s : State) : (setLy v s).ppu.stat = s.ppu.stat := rfl
@[simp] theorem setLy_ppu_scy (v : Byte) (s : State) : (setLy v s).ppu.scy = s.ppu.scy := rfl
@[simp] theorem setLy_ppu_scx (v : Byte) (s : State) : (setLy v s).ppu.scx = s.ppu.scx := rfl
@[simp] theorem setLy_ppu_ly (v : Byte) (s : State) : (setLy v s).ppu.ly = v := rfl
@[simp] theorem setLy_ppu_lyc (v : Byte) (s : State) : (setLy v s).ppu.lyc = s.ppu.lyc := rfl
@[simp] theorem setLy_ppu_dma (v : Byte) (s : State) : (setLy v s).ppu.dma = s.ppu.dma := rfl
@[simp] theorem setLy_ppu_bgp (v : Byte) (s : State) : (setLy v s).ppu.bgp = s.ppu.bgp := rfl
@[simp] theorem setLy_ppu_obp0 (v : Byte) (s : State) : (setLy v s).ppu.obp0 = s.ppu.obp0 := rfl
@[simp] theorem setLy_ppu_obp1 (v : Byte) (s : State) : (setLy v s).ppu.obp1 = s.ppu.obp1 := rfl
@[simp] theorem setLy_ppu_wy (v : Byte) (s : State) : (setLy v s).ppu.wy = s.ppu.wy := rfl
@[simp] theorem setLy_ppu_wx (v : Byte) (s : State) : (setLy v s).ppu.wx = s.ppu.wx := rfl
@[simp] theorem setLy_ppu_mode (v : Byte) (s : State) : (setLy v s).ppu.mode = s.ppu.mode := rfl
@[simp] theorem setLy_ppu_acc (v : Byte) (s : State) : (setLy v s).ppu.acc = s.ppu.acc := rfl
@[simp] theorem setLy_ppu_fb (v : Byte) (s : State) : (setLy v s).ppu.fb = s.ppu.fb := rfl
@[simp] theorem setLy_mem (v : Byte) (s : State) : (setLy v s).mem = s.mem := rfl
@[simp] theorem setLy_cart (v : Byte) (s : State) : (setLy v s).cart = s.cart := rfl
@[simp] theorem setLy_joypad (v : Byte) (s : State) : (setLy v s).joypad = s.joypad := rfl
@[simp] theorem setLy_params (v : Byte) (s : State) : (setLy v s).params = s.params := rfl
@[simp] theorem setLy_cycles (v : Byte) (s : State) : (setLy v s).cycles = s.cycles := rfl
@[simp] theorem setLy_hostActs (v : Byte) (s : State) : (setLy v s).hostActs = s.hostActs := rfl
@[simp] theorem setLy_handedFrame (v : Byte) (s : State) : (setLy v s).handedFrame = s.handedFrame := rfl

/-! ## handFrame: handing over the frame -/

@[simp] theorem handFrame_cpu (s : State) : (handFrame s).cpu = s.cpu := rfl
@[simp] theorem handFrame_ints (s : State) : (handFrame s).ints = s.ints := rfl
@[simp] theorem handFrame_timer (s : State) : (handFrame s).timer = s.timer := rfl
@[simp] theorem handFrame_ppu (s : State) : (handFrame s).ppu = s.ppu := rfl
@[simp] theorem handFrame_mem (s : State) : (handFrame s).mem = s.mem := rfl
@[simp] theorem handFrame_cart (s : State) : (handFrame s).cart = s.cart := rfl
@[simp] theorem handFrame_joypad (s : State) : (handFrame s).joypad = s.joypad := rfl
@[simp] theorem handFrame_params (s : State) : (handFrame s).params = s.params := rfl
@[simp] theorem handFrame_cycles (s : State) : (handFrame s).cycles = s.cycles := rfl
@[simp] theorem handFrame_hostActs (s : State) : (handFrame s).hostActs = s.hostActs := rfl
@[simp] theorem handFrame_handedFrame (s : State) : (handFrame s).handedFrame = some s.ppu.fb := rfl

/-! ## idle: an idle `execute()` -/

@[simp] theorem idle_cpu (s : State) : (idle s).cpu = s.cpu := rfl
@[simp] theorem idle_ints (s : State) : (idle s).ints = s.ints := rfl
@[simp] theorem idle_timer (s : State) : (idle s).timer = s.timer := rfl
@[simp] theorem idle_ppu (s : State) : (idle s).ppu = s.ppu := rfl
@[simp] theorem idle_mem (s : State) : (idle s).mem = s.mem := rfl
@[simp] theorem idle_cart (s : State) : (idle s).cart = s.cart := rfl
@[simp] theorem idle_joypad (s : State) : (idle s).joypad = s.joypad := rfl
@[simp] theorem idle_params (s : State) : (idle s).params = s.params := rfl
@[simp] theorem idle_cycles (s : State) : (idle s).cycles = s.params.cycIdle := rfl
@[simp] theorem idle_hostActs (s : State) : (idle s).hostActs = s.hostActs := rfl
@[simp] theorem idle_handedFrame (s : State) : (idle s).handedFrame = s.handedFrame := rfl

/-! ## Reading the registers back -/

@[simp] theorem getReg_setReg (r dst : Reg8) (v : Byte) (s : State) : getReg r (setReg dst v s) = if r = dst then v else getReg r s := by
  cases r <;> cases dst <;> rfl

@[simp] theorem getReg_setPc (r : Reg8) (w : Word) (s : State) : getReg r (setPc w s) = getReg r s := by
  cases r <;> rfl

@[simp] theorem getReg_setSp (r : Reg8) (w : Word) (s : State) : getReg r (setSp w s) = getReg r s := by
  cases r <;> rfl

@[simp] theorem getReg_setF (r : Reg8) (v : Byte) (s : State) : getReg r (setF v s) = getReg r s := by
  cases r <;> rfl

@[simp] theorem getReg_setFlags (r : Reg8) (z n h c : Bool) (s : State) : getReg r (setFlags z n h c s) = getReg r s := by
  cases r <;> rfl

@[simp] theorem getReg_setAluFlags (r : Reg8) (x : Alu) (s : State) : getReg r (setAluFlags x s) = getReg r s := by
  cases r <;> rfl

/-- A register's value depends on the CPU alone. -/
theorem getReg_congr (r : Reg8) {s t : State} (h : t.cpu = s.cpu) : getReg r t = getReg r s := by
  cases r <;> simp [getReg, h]

@[simp] theorem getHL_setHL (w : Word) (s : State) : getHL (setHL w s) = w := by
  simp [getHL]

@[simp] theorem getPair_setPair (p : Pair) (w : Word) (s : State) : getPair p (setPair p w s) = w := by
  cases p <;> simp [getPair, setPair, getHL]

end Sys2Proof.Machine
end

