-- ==== Sys2Proof/Laws/Bus.lean ====
section
/-! SUPPORT. What the bus operations can do: reads and writes by region, one inversion lemma for a write, the DMA copy, the stack. -/

namespace Sys2Proof.Machine

/-! ## Regions -/

theorem isPlain_iff (a : Nat) :
    isPlain a = true ↔
      (0x8000 ≤ a ∧ a < 0xA000) ∨ (0xFE00 ≤ a ∧ a < 0xFEA0) ∨ (0xFF01 ≤ a ∧ a ≤ 0xFF03) ∨ (0xFF08 ≤ a ∧ a ≤ 0xFF0E) ∨
        (0xFF10 ≤ a ∧ a ≤ 0xFF3F) ∨ (0xFF4C ≤ a ∧ a ≤ 0xFFFE) := by
  simp [isPlain, or_assoc]

theorem isWork_iff (a : Nat) : isWork a = true ↔ 0xC000 ≤ a ∧ a < 0xFE00 := by
  simp [isWork]

/-- The addresses the cartridge answers. -/
def inCart (a : Nat) : Prop := a < 0x8000 ∨ (0xA000 ≤ a ∧ a < 0xC000)

/-- The addresses of device registers, the DMA register apart. -/
def inRegisters (a : Nat) : Prop :=
  a = 0xFF00 ∨ (0xFF04 ≤ a ∧ a ≤ 0xFF07) ∨ a = 0xFF0F ∨ (0xFF40 ≤ a ∧ a ≤ 0xFF4B ∧ a ≠ 0xFF46) ∨ a = 0xFFFF

/-- Every address is in one of six regions. -/
theorem region_cases (a : Word) :
    inCart a.toNat ∨ isWork a.toNat = true ∨ isPlain a.toNat = true ∨ (0xFEA0 ≤ a.toNat ∧ a.toNat ≤ 0xFEFF) ∨ a.toNat = 0xFF46 ∨
      inRegisters a.toNat := by
  have h := a.isLt
  simp only [isPlain_iff, isWork_iff, inCart, inRegisters]
  omega

/-! ## Reads -/

theorem memRead_cart (a : Word) (s : State) (h : inCart a.toNat) : memRead a s = cartRead s.params s.cart a := by
  unfold inCart at h
  simp [memRead, h]

theorem memRead_high (a : Word) (s : State) (h : 0xFE00 ≤ a.toNat) : memRead a s = .ok (highRead s a.toNat) := by
  have h1 : ¬ (a.toNat < 0x8000 ∨ (0xA000 ≤ a.toNat ∧ a.toNat < 0xC000)) := by omega
  have h2 : ¬ a.toNat < 0xFE00 := by omega
  simp only [memRead, if_neg h1, if_neg h2]

theorem highRead_plain (a : Nat) (s : State) (h : isPlain a = true) : highRead s a = s.mem.read a := by
  rw [isPlain_iff] at h
  unfold highRead
  repeat (first | rw [if_neg (by omega)])

theorem memRead_plain (a : Word) (s : State) (h : isPlain a.toNat = true) : memRead a s = .ok (s.mem.read a.toNat) := by
  have hp := (isPlain_iff _).mp h
  have h1 : ¬ (a.toNat < 0x8000 ∨ (0xA000 ≤ a.toNat ∧ a.toNat < 0xC000)) := by omega
  by_cases hb : a.toNat < 0xFE00
  · simp only [memRead, if_neg h1, if_pos hb]
  · rw [memRead_high a s (by omega), highRead_plain _ s h]

theorem memRead_work (a : Word) (s : State) (h : isWork a.toNat = true) : memRead a s = .ok (s.mem.read a.toNat) := by
  have hw := (isWork_iff _).mp h
  have h1 : ¬ (a.toNat < 0x8000 ∨ (0xA000 ≤ a.toNat ∧ a.toNat < 0xC000)) := by omega
  simp only [memRead, if_neg h1, if_pos hw.2]

theorem memRead_restricted (a : Word) (s : State) (h : 0xFEA0 ≤ a.toNat ∧ a.toNat ≤ 0xFEFF) : memRead a s = .ok s.params.restrictedRead := by
  rw [memRead_high a s (by omega), highRead, if_pos h]

/-- A read depends on the components the bus shows alone. -/
theorem memRead_congr (a : Word) {s t : State} (hm : t.mem = s.mem) (hc : t.cart = s.cart) (hp : t.params = s.params) (hj : t.joypad = s.joypad)
    (ht : t.timer = s.timer) (hi : t.ints.iflag = s.ints.iflag) (he : t.ints.ie = s.ints.ie) (hu : t.ppu = s.ppu) : memRead a t = memRead a s := by
  simp [memRead, highRead, joypadRead, hm, hc, hp, hj, ht, hi, he, hu]

/-- A read outside the cartridge completes. -/
theorem memRead_total (a : Word) (s : State) (h : 0x8000 ≤ a.toNat) (hc : ¬ (0xA000 ≤ a.toNat ∧ a.toNat < 0xC000)) :
    ∃ b, memRead a s = .ok b := by
  have h1 : ¬ (a.toNat < 0x8000 ∨ (0xA000 ≤ a.toNat ∧ a.toNat < 0xC000)) := by omega
  unfold memRead
  rw [if_neg h1]
  split
  · exact ⟨_, rfl⟩
  · exact ⟨_, rfl⟩

/-! ## A cell's write and the reads after it -/

theorem memRead_setCell_other (b : Word) (a : Nat) (v : Byte) (s : State) (h : b.toNat ≠ a) : memRead b (setCell a v s) = memRead b s := by
  simp [memRead, highRead, h, joypadRead]

theorem memRead_setCell_same (a : Word) (v : Byte) (s : State) (h : isPlain a.toNat = true ∨ isWork a.toNat = true) :
    memRead a (setCell a.toNat v s) = .ok v := by
  rcases h with h | h
  · simp [memRead_plain _ _ h]
  · simp [memRead_work _ _ h]

/-! ## Writes -/

theorem memWrite_cart (a : Word) (v : Byte) (s : State) (h : inCart a.toNat) : memWrite a v s = .ok { s with cart := cartWrite s.params s.cart a v } := by
  unfold inCart at h
  simp [memWrite, h]

theorem memWrite_work (a : Word) (v : Byte) (s : State) (h : isWork a.toNat = true) : memWrite a v s = .ok (workWrite a.toNat v s) := by
  have hw := (isWork_iff _).mp h
  have h1 : ¬ (a.toNat < 0x8000 ∨ (0xA000 ≤ a.toNat ∧ a.toNat < 0xC000)) := by omega
  have h2 : ¬ a.toNat < 0xC000 := by omega
  simp only [memWrite, if_neg h1, if_neg h2, if_pos hw.2]

theorem memWrite_high (a : Word) (v : Byte) (s : State) (h : 0xFE00 ≤ a.toNat) (hd : a.toNat ≠ 0xFF46) :
    memWrite a v s = .ok (highWrite a.toNat v s) := by
  have h1 : ¬ (a.toNat < 0x8000 ∨ (0xA000 ≤ a.toNat ∧ a.toNat < 0xC000)) := by omega
  have h2 : ¬ a.toNat < 0xC000 := by omega
  have h3 : ¬ a.toNat < 0xFE00 := by omega
  simp only [memWrite, if_neg h1, if_neg h2, if_neg h3, if_neg hd]

theorem memWrite_dma (a : Word) (v : Byte) (s : State) (h : a.toNat = 0xFF46) : memWrite a v s = dmaWrite v s := by
  have h1 : ¬ (a.toNat < 0x8000 ∨ (0xA000 ≤ a.toNat ∧ a.toNat < 0xC000)) := by omega
  have h2 : ¬ a.toNat < 0xC000 := by omega
  have h3 : ¬ a.toNat < 0xFE00 := by omega
  simp only [memWrite, if_neg h1, if_neg h2, if_neg h3, if_pos h]

theorem memWrite_plain (a : Word) (v : Byte) (s : State) (h : isPlain a.toNat = true) : memWrite a v s = .ok (setCell a.toNat v s) := by
  have hp := (isPlain_iff _).mp h
  by_cases hb : a.toNat < 0xC000
  · have h1 : ¬ (a.toNat < 0x8000 ∨ (0xA000 ≤ a.toNat ∧ a.toNat < 0xC000)) := by omega
    simp only [memWrite, if_neg h1, if_pos hb]
  · rw [memWrite_high a v s (by omega) (by omega)]
    unfold highWrite
    repeat (first | rw [if_neg (by omega)])

theorem memWrite_restricted (a : Word) (v : Byte) (s : State) (h : 0xFEA0 ≤ a.toNat ∧ a.toNat ≤ 0xFEFF) : memWrite a v s = .ok s := by
  rw [memWrite_high a v s (by omega) (by omega), highWrite, if_pos h]

/-- A register's write changes its device alone. -/
theorem highWrite_register (a : Nat) (v : Byte) (s : State) (h : inRegisters a) :
    (a = 0xFF00 ∧ highWrite a v s = { s with joypad := joypadWrite s.joypad v }) ∨
    (a = 0xFF04 ∧ highWrite a v s = { s with timer := { s.timer with div := 0, divAcc := 0 } }) ∨
    (a = 0xFF05 ∧ highWrite a v s = { s with timer := { s.timer with tima := v } }) ∨
    (a = 0xFF06 ∧ highWrite a v s = { s with timer := { s.timer with tma := v } }) ∨
    (a = 0xFF07 ∧ highWrite a v s = { s with timer := { s.timer with tmc := v } }) ∨
    (a = 0xFF0F ∧ highWrite a v s = { s with ints := { s.ints with iflag := v } }) ∨
    ((0xFF40 ≤ a ∧ a ≤ 0xFF4B ∧ a ≠ 0xFF46) ∧ highWrite a v s = { s with ppu := setPpuRegister s.ppu a v }) ∨
    (a = 0xFFFF ∧ highWrite a v s = { s with ints := { s.ints with ie := v } }) := by
  have cases : a = 0xFF00 ∨ a = 0xFF04 ∨ a = 0xFF05 ∨ a = 0xFF06 ∨ a = 0xFF07 ∨ a = 0xFF0F ∨ (0xFF40 ≤ a ∧ a ≤ 0xFF4B ∧ a ≠ 0xFF46) ∨
      a = 0xFFFF := by
    unfold inRegisters at h
    omega
  rcases cases with rfl | rfl | rfl | rfl | rfl | rfl | hp | rfl
  · exact .inl ⟨rfl, rfl⟩
  · exact .inr (.inl ⟨rfl, rfl⟩)
  · exact .inr (.inr (.inl ⟨rfl, rfl⟩))
  · exact .inr (.inr (.inr (.inl ⟨rfl, rfl⟩)))
  · exact .inr (.inr (.inr (.inr (.inl ⟨rfl, rfl⟩))))
  · exact .inr (.inr (.inr (.inr (.inr (.inl ⟨rfl, rfl⟩)))))
  · refine .inr (.inr (.inr (.inr (.inr (.inr (.inl ⟨hp, ?_⟩))))))
    unfold highWrite
    rw [if_neg (by omega), if_neg (by omega), if_neg (by omega), if_neg (by omega), if_neg (by omega), if_neg (by omega), if_neg (by omega),
      if_pos ⟨hp.1, hp.2.1⟩]
  · exact .inr (.inr (.inr (.inr (.inr (.inr (.inr ⟨rfl, rfl⟩))))))

/-! ## What no bus write touches -/

/-- The parts of the state no bus write changes. -/
structure BusKept (s t : State) : Prop where
  cpu : t.cpu = s.cpu
  ime : t.ints.ime = s.ints.ime
  timaAcc : t.timer.timaAcc = s.timer.timaAcc
  mode : t.ppu.mode = s.ppu.mode
  acc : t.ppu.acc = s.ppu.acc
  fb : t.ppu.fb = s.ppu.fb
  image : t.cart.image = s.cart.image
  params : t.params = s.params
  cycles : t.cycles = s.cycles
  hostActs : t.hostActs = s.hostActs
  handedFrame : t.handedFrame = s.handedFrame
  buttons : t.joypad.buttons = s.joypad.buttons

theorem BusKept.refl (s : State) : BusKept s s := ⟨rfl, rfl, rfl, rfl, rfl, rfl, rfl, rfl, rfl, rfl, rfl, rfl⟩

theorem BusKept.trans {s t u : State} (h : BusKept s t) (k : BusKept t u) : BusKept s u :=
  ⟨k.cpu.trans h.cpu, k.ime.trans h.ime, k.timaAcc.trans h.timaAcc, k.mode.trans h.mode, k.acc.trans h.acc, k.fb.trans h.fb,
    k.image.trans h.image, k.params.trans h.params, k.cycles.trans h.cycles, k.hostActs.trans h.hostActs,
    k.handedFrame.trans h.handedFrame, k.buttons.trans h.buttons⟩

theorem cartWrite_image (p : Params) (c : Cart) (a : Word) (v : Byte) : (cartWrite p c a v).image = c.image := by
  unfold cartWrite
  split <;> rfl

theorem setPpuRegister_hidden (p : PixelUnit) (a : Nat) (v : Byte) :
    (setPpuRegister p a v).mode = p.mode ∧ (setPpuRegister p a v).acc = p.acc ∧ (setPpuRegister p a v).fb = p.fb := by
  unfold setPpuRegister
  split <;> exact ⟨rfl, rfl, rfl⟩

/-- Work RAM writes change `M` alone. -/
theorem workWrite_eq (a : Nat) (v : Byte) (s : State) : workWrite a v s = { s with mem := (workWrite a v s).mem } := by
  unfold workWrite
  split
  · rfl
  · split <;> rfl

theorem workWrite_read (a b : Nat) (v : Byte) (s : State) :
    (workWrite a v s).mem.read b =
      if b = a ∨ (a < 0xDE00 ∧ b = a + 0x2000) ∨ (0xE000 ≤ a ∧ b = a - 0x2000) then v else s.mem.read b := by
  unfold workWrite
  split
  · simp only [setCell_mem, Memory.read_write]
    by_cases h1 : b = a + 0x2000
    · rw [if_pos h1, if_pos (by omega)]
    · rw [if_neg h1]
      by_cases h2 : b = a
      · rw [if_pos h2, if_pos (by omega)]
      · rw [if_neg h2, if_neg (by omega)]
  · split
    · simp only [setCell_mem, Memory.read_write]
      by_cases h2 : b = a
      · rw [if_pos h2, if_pos (by omega)]
      · rw [if_neg h2, if_neg (by omega)]
    · simp only [setCell_mem, Memory.read_write]
      by_cases h1 : b = a - 0x2000
      · rw [if_pos h1, if_pos (by omega)]
      · rw [if_neg h1]
        by_cases h2 : b = a
        · rw [if_pos h2, if_pos (by omega)]
        · rw [if_neg h2, if_neg (by omega)]

/-! ## The DMA copy -/

/-- What a completed copy from its step `i` on has done: `M` alone changed, in the copied cells alone, each now the byte its source address reads. -/
theorem dmaCopy_ok (src : Byte) (n i : Nat) (s t : State) (hn : i + n ≤ 160) (h : dmaCopy src n i s = .ok t) :
    t = { s with mem := t.mem } ∧ (∀ a, ¬ (0xFE00 + i ≤ a ∧ a < 0xFE00 + i + n) → t.mem.read a = s.mem.read a) ∧
      ∀ j, i ≤ j → j < i + n → memRead (BitVec.ofNat 16 (src.toNat * 256 + j)) s = .ok (t.mem.read (0xFE00 + j)) := by
  induction n generalizing i s with
  | zero =>
    simp only [dmaCopy, Except.ok.injEq] at h
    subst h
    exact ⟨rfl, fun _ _ => rfl, fun j h1 h2 => by omega⟩
  | succ n ih =>
    simp only [dmaCopy] at h
    cases hb : memRead (BitVec.ofNat 16 (src.toNat * 256 + i)) s with
    | error f => simp [hb, bind, Except.bind] at h
    | ok b =>
      simp only [hb, bind, Except.bind] at h
      obtain ⟨e, keep, copied⟩ := ih (i + 1) _ (by omega) h
      refine ⟨?_, fun a ha => ?_, fun j h1 h2 => ?_⟩
      · rw [e]
        rfl
      · rw [keep a (by omega), setCell_mem, Memory.read_write_other _ _ _ _ (by omega)]
      · by_cases hj : j = i
        · subst hj
          rw [hb, keep _ (by omega), setCell_mem, Memory.read_write_same]
        · rw [← copied j (by omega) (by omega), memRead_setCell_other]
          have hs := src.isLt
          simp only [BitVec.toNat_ofNat]
          omega

/-- A copy completes exactly if every source address can be read. -/
theorem dmaCopy_completes (src : Byte) (n i : Nat) (s : State) (hn : i + n ≤ 160) :
    (∃ t, dmaCopy src n i s = .ok t) ↔ ∀ j, i ≤ j → j < i + n → ∃ b, memRead (BitVec.ofNat 16 (src.toNat * 256 + j)) s = .ok b := by
  induction n generalizing i s with
  | zero => exact ⟨fun _ j h1 h2 => by omega, fun _ => ⟨s, rfl⟩⟩
  | succ n ih =>
    cases hb : memRead (BitVec.ofNat 16 (src.toNat * 256 + i)) s with
    | error f =>
      constructor
      · rintro ⟨t, h⟩
        simp [dmaCopy, hb, bind, Except.bind] at h
      · intro h
        obtain ⟨b, e⟩ := h i (Nat.le_refl i) (by omega)
        rw [hb] at e
        cases e
    | ok b =>
      have step : (∃ t, dmaCopy src (n + 1) i s = .ok t) ↔ ∃ t, dmaCopy src n (i + 1) (setCell (0xFE00 + i) b s) = .ok t := by
        simp [dmaCopy, hb, bind, Except.bind]
      rw [step, ih (i + 1) _ (by omega)]
      have same : ∀ j, i + 1 ≤ j → j < i + 1 + n →
          memRead (BitVec.ofNat 16 (src.toNat * 256 + j)) (setCell (0xFE00 + i) b s) = memRead (BitVec.ofNat 16 (src.toNat * 256 + j)) s := by
        intro j h1 h2
        apply memRead_setCell_other
        have hs := src.isLt
        simp only [BitVec.toNat_ofNat]
        omega
      constructor
      · intro h j h1 h2
        by_cases hj : j = i
        · exact ⟨b, hj ▸ hb⟩
        · rw [← same j (by omega) (by omega)]
          exact h j (by omega) (by omega)
      · intro h j h1 h2
        rw [same j h1 h2]
        exact h j (by omega) (by omega)

/-! ## One lemma for every write -/

/-- Everything a completed bus write can have done. -/
theorem memWrite_cases {a : Word} {v : Byte} {s t : State} (h : memWrite a v s = .ok t) :
    (inCart a.toNat ∧ t = { s with cart := cartWrite s.params s.cart a v }) ∨
    (isWork a.toNat = true ∧ t = workWrite a.toNat v s) ∨
    (isPlain a.toNat = true ∧ t = setCell a.toNat v s) ∨
    ((0xFEA0 ≤ a.toNat ∧ a.toNat ≤ 0xFEFF) ∧ t = s) ∨
    (a.toNat = 0xFF46 ∧ dmaWrite v s = .ok t) ∨
    (inRegisters a.toNat ∧ t = highWrite a.toNat v s) := by
  rcases region_cases a with hr | hr | hr | hr | hr | hr
  · rw [memWrite_cart a v s hr] at h
    exact .inl ⟨hr, (Except.ok.inj h).symm⟩
  · rw [memWrite_work a v s hr] at h
    exact .inr (.inl ⟨hr, (Except.ok.inj h).symm⟩)
  · rw [memWrite_plain a v s hr] at h
    exact .inr (.inr (.inl ⟨hr, (Except.ok.inj h).symm⟩))
  · rw [memWrite_restricted a v s hr] at h
    exact .inr (.inr (.inr (.inl ⟨hr, (Except.ok.inj h).symm⟩)))
  · rw [memWrite_dma a v s hr] at h
    exact .inr (.inr (.inr (.inr (.inl ⟨hr, h⟩))))
  · have hlow : 0xFE00 ≤ a.toNat ∧ a.toNat ≠ 0xFF46 := by
      unfold inRegisters at hr
      omega
    rw [memWrite_high a v s hlow.1 hlow.2] at h
    exact .inr (.inr (.inr (.inr (.inr ⟨hr, (Except.ok.inj h).symm⟩))))

/-- A completed DMA trigger: the register, and OAM. -/
theorem dmaWrite_ok {v : Byte} {s t : State} (h : dmaWrite v s = .ok t) :
    t = { s with ppu := { s.ppu with dma := v }, mem := t.mem } ∧
      (∀ a, ¬ (0xFE00 ≤ a ∧ a < 0xFEA0) → t.mem.read a = s.mem.read a) ∧
      ∀ i, i < 160 → memRead (BitVec.ofNat 16 (v.toNat * 256 + i)) { s with ppu := { s.ppu with dma := v } } = .ok (t.mem.read (0xFE00 + i)) := by
  obtain ⟨e, keep, copied⟩ := dmaCopy_ok v 160 0 _ t (by omega) h
  exact ⟨e, fun a ha => keep a (by omega), fun i hi => copied i (by omega) (by omega)⟩

/-- Every write keeps what no bus address reaches. -/
theorem memWrite_kept {a : Word} {v : Byte} {s t : State} (h : memWrite a v s = .ok t) : BusKept s t := by
  rcases memWrite_cases h with ⟨-, rfl⟩ | ⟨-, rfl⟩ | ⟨-, rfl⟩ | ⟨-, rfl⟩ | ⟨-, hd⟩ | ⟨hr, rfl⟩
  · exact ⟨rfl, rfl, rfl, rfl, rfl, rfl, cartWrite_image .., rfl, rfl, rfl, rfl, rfl⟩
  · rw [workWrite_eq]
    exact BusKept.mk rfl rfl rfl rfl rfl rfl rfl rfl rfl rfl rfl rfl
  · exact ⟨rfl, rfl, rfl, rfl, rfl, rfl, rfl, rfl, rfl, rfl, rfl, rfl⟩
  · exact BusKept.refl _
  · rw [(dmaWrite_ok hd).1]
    exact BusKept.mk rfl rfl rfl rfl rfl rfl rfl rfl rfl rfl rfl rfl
  · rcases highWrite_register _ v s hr with ⟨-, e⟩ | ⟨-, e⟩ | ⟨-, e⟩ | ⟨-, e⟩ | ⟨-, e⟩ | ⟨-, e⟩ | ⟨-, e⟩ | ⟨-, e⟩ <;> rw [e]
    iterate 6 exact BusKept.mk rfl rfl rfl rfl rfl rfl rfl rfl rfl rfl rfl rfl
    · obtain ⟨h1, h2, h3⟩ := setPpuRegister_hidden s.ppu a.toNat v
      exact ⟨rfl, rfl, rfl, h1, h2, h3, rfl, rfl, rfl, rfl, rfl, rfl⟩
    · exact BusKept.mk rfl rfl rfl rfl rfl rfl rfl rfl rfl rfl rfl rfl

/-- Every write but a DMA trigger completes. -/
theorem memWrite_completes (a : Word) (v : Byte) (s : State) (h : a ≠ 0xFF46) : ∃ t, memWrite a v s = .ok t := by
  have hne : a.toNat ≠ 0xFF46 := fun e => h (BitVec.eq_of_toNat_eq e)
  rcases region_cases a with hr | hr | hr | hr | hr | hr
  · exact ⟨_, memWrite_cart a v s hr⟩
  · exact ⟨_, memWrite_work a v s hr⟩
  · exact ⟨_, memWrite_plain a v s hr⟩
  · exact ⟨_, memWrite_restricted a v s hr⟩
  · exact absurd hr hne
  · have hlow : 0xFE00 ≤ a.toNat := by
      unfold inRegisters at hr
      omega
    exact ⟨_, memWrite_high a v s hlow hne⟩

/-! ## The stack -/

/-- A completed push: its two writes in order, then `SP`. -/
theorem push16_ok {w : Word} {s t : State} (h : push16 w s = .ok t) :
    ∃ s1 s2, memWrite (s.cpu.sp - 1) (hiByte w) s = .ok s1 ∧ memWrite (s.cpu.sp - 2) (loByte w) s1 = .ok s2 ∧
      BusKept s s2 ∧ t = setSp (s.cpu.sp - 2) s2 := by
  simp only [push16, bind, Except.bind] at h
  split at h
  · cases h
  · next s1 h1 =>
    have k1 := memWrite_kept h1
    split at h
    · cases h
    · next s2 h2 =>
      have k2 := memWrite_kept h2
      cases h
      exact ⟨s1, s2, h1, h2, k1.trans k2, by simp [setSp, k2.cpu, k1.cpu]⟩

/-- A push whose two writes complete completes. -/
theorem push16_of_writes {w : Word} {s s1 s2 : State} (h1 : memWrite (s.cpu.sp - 1) (hiByte w) s = .ok s1)
    (h2 : memWrite (s.cpu.sp - 2) (loByte w) s1 = .ok s2) : push16 w s = .ok (setSp (s.cpu.sp - 2) s2) := by
  have k1 := memWrite_kept h1
  have k2 := memWrite_kept h2
  simp only [push16, bind, Except.bind, h1, h2, setSp, k2.cpu, k1.cpu]

/-- A completed pop reads two bytes and changes `SP` alone. -/
theorem pop16_ok {w : Word} {s t : State} (h : pop16 s = .ok (w, t)) :
    memRead s.cpu.sp s = .ok (loByte w) ∧ memRead (s.cpu.sp + 1) s = .ok (hiByte w) ∧ t = setSp (s.cpu.sp + 2) s := by
  simp only [pop16, bind, Except.bind] at h
  split at h
  · cases h
  · next lo h1 =>
    split at h
    · cases h
    · next hi h2 =>
      cases h
      exact ⟨by rw [h1, loByte_cat], by rw [h2, hiByte_cat], rfl⟩

/-- A pop whose two reads complete completes. -/
theorem pop16_of_reads {w : Word} {s : State} (h1 : memRead s.cpu.sp s = .ok (loByte w)) (h2 : memRead (s.cpu.sp + 1) s = .ok (hiByte w)) :
    pop16 s = .ok (w, setSp (s.cpu.sp + 2) s) := by
  simp only [pop16, bind, Except.bind, h1, h2, cat_hiByte_loByte]
  rfl

end Sys2Proof.Machine
end

