-- ==== Sys2Proof/Laws/Cartridge.lean ====
section
/-! SUPPORT. The bank numbers the controllers compute, as numbers, and the bounds of their registers and RAM. -/

namespace Sys2Proof.Machine

theorem mbc1Remap_eq (b : BitVec 7) : mbc1Remap b = BitVec.ofNat 7 (if b.toNat % 32 = 0 then b.toNat + 1 else b.toNat) := by
  revert b
  decide +kernel

/-- The remapped bank is never a multiple of 0x20. -/
theorem mbc1Remap_ne (b : BitVec 7) : mbc1Remap b ≠ 0x00 ∧ mbc1Remap b ≠ 0x20 ∧ mbc1Remap b ≠ 0x40 ∧ mbc1Remap b ≠ 0x60 := by
  revert b
  decide +kernel

theorem or_toNat_of_parts (hi lo : Nat) (h : lo < 32) : hi * 32 ||| lo = hi * 32 + lo := by
  have e := Nat.two_pow_add_eq_or_of_lt (i := 5) (show lo < 2 ^ 5 from h) hi
  rw [show hi * 32 = 2 ^ 5 * hi by omega, e]

/-- The low five bits of the bank replaced. -/
theorem bank_low_toNat (b : BitVec 7) (v : Byte) : ((b &&& 0x60) ||| (v &&& 0x1F).setWidth 7).toNat = b.toNat / 32 * 32 + v.toNat % 32 := by
  have hb : (b &&& 0x60).toNat = b.toNat / 32 * 32 := by
    revert b
    decide +kernel
  have hv : ((v &&& 0x1F).setWidth 7).toNat = v.toNat % 32 := by
    revert v
    decide +kernel
  rw [BitVec.toNat_or, hb, hv, or_toNat_of_parts _ _ (Nat.mod_lt _ (by decide))]

/-- The high two bits of the bank replaced. -/
theorem bank_high_toNat (b : BitVec 7) (v : Byte) :
    ((b &&& (0x1F : BitVec 7)) ||| (((v &&& (0x03 : Byte)).setWidth 7) <<< 5)).toNat = b.toNat % 32 + v.toNat % 4 * 32 := by
  have hb : (b &&& 0x1F).toNat = b.toNat % 32 := by
    revert b
    decide +kernel
  have hv : (((v &&& (0x03 : Byte)).setWidth 7) <<< 5).toNat = v.toNat % 4 * 32 := by
    revert v
    decide +kernel
  rw [BitVec.toNat_or, hb, hv, Nat.or_comm, or_toNat_of_parts _ _ (Nat.mod_lt _ (by decide)), Nat.add_comm]

theorem enable_nibble (v : Byte) : decide (v &&& 0x0F = 0x0A) = decide (v.toNat % 16 = 0xA) := by
  revert v
  decide +kernel

theorem mbc2Bank_eq (v : Byte) : mbc2Bank v = BitVec.ofNat 4 (if v.toNat % 16 = 0 then 1 else v.toNat % 16) := by
  revert v
  decide +kernel

theorem mbc2Bank_ne (v : Byte) : mbc2Bank v ≠ 0 := by
  revert v
  decide +kernel

theorem low_nibble_lt (v : Byte) : (v &&& 0x0F).toNat < 16 := by
  revert v
  decide +kernel

end Sys2Proof.Machine
end

