-- ==== Sys2Proof/Laws/Devices.lean ====
section
/-! SUPPORT. What the timer, the pixel unit and the interrupt controller can do, once each. -/

namespace Sys2Proof.Machine

/-! ## What the timer and the pixel unit leave -/

/-- The timer and the pixel unit change neither CPU, memory, cartridge nor the host's side, and of the interrupt controller only set bits of `IF`. -/
structure DevicesKept (s t : State) : Prop where
  cpu : t.cpu = s.cpu
  mem : t.mem = s.mem
  cart : t.cart = s.cart
  joypad : t.joypad = s.joypad
  params : t.params = s.params
  cycles : t.cycles = s.cycles
  hostActs : t.hostActs = s.hostActs
  ime : t.ints.ime = s.ints.ime
  ie : t.ints.ie = s.ints.ie
  iflag : ∃ m, t.ints.iflag = s.ints.iflag ||| m

theorem DevicesKept.refl (s : State) : DevicesKept s s :=
  ⟨rfl, rfl, rfl, rfl, rfl, rfl, rfl, rfl, rfl, 0, by simp⟩

theorem DevicesKept.trans {s t u : State} (h : DevicesKept s t) (k : DevicesKept t u) : DevicesKept s u := by
  obtain ⟨m, hm⟩ := h.iflag
  obtain ⟨n, hn⟩ := k.iflag
  exact ⟨k.cpu.trans h.cpu, k.mem.trans h.mem, k.cart.trans h.cart, k.joypad.trans h.joypad, k.params.trans h.params, k.cycles.trans h.cycles,
    k.hostActs.trans h.hostActs, k.ime.trans h.ime, k.ie.trans h.ie, m ||| n, by rw [hn, hm, BitVec.or_assoc]⟩

theorem requestInterrupt_kept (i : Nat) (s : State) : DevicesKept s (requestInterrupt i s) :=
  ⟨rfl, rfl, rfl, rfl, rfl, rfl, rfl, rfl, rfl, _, rfl⟩

/-! ## Timer -/

theorem timaTick_kept (s : State) : DevicesKept s (timaTick s) ∧ (timaTick s).ppu = s.ppu ∧ (timaTick s).handedFrame = s.handedFrame ∧
    (timaTick s).timer.divAcc = s.timer.divAcc ∧ (timaTick s).timer.timaAcc = s.timer.timaAcc := by
  unfold timaTick
  split
  · exact ⟨⟨rfl, rfl, rfl, rfl, rfl, rfl, rfl, rfl, rfl, _, rfl⟩, rfl, rfl, rfl, rfl⟩
  · exact ⟨⟨rfl, rfl, rfl, rfl, rfl, rfl, rfl, rfl, rfl, 0, by simp⟩, rfl, rfl, rfl, rfl⟩

theorem timaTicks_kept (n : Nat) (s : State) : DevicesKept s (timaTicks n s) ∧ (timaTicks n s).ppu = s.ppu ∧
    (timaTicks n s).handedFrame = s.handedFrame ∧ (timaTicks n s).timer.divAcc = s.timer.divAcc ∧
    (timaTicks n s).timer.timaAcc = s.timer.timaAcc := by
  induction n generalizing s with
  | zero => exact ⟨DevicesKept.refl s, rfl, rfl, rfl, rfl⟩
  | succ n ih =>
    obtain ⟨k1, p1, f1, d1, a1⟩ := timaTick_kept s
    obtain ⟨k2, p2, f2, d2, a2⟩ := ih (timaTick s)
    exact ⟨k1.trans k2, p2.trans p1, f2.trans f1, d2.trans d1, a2.trans a1⟩

theorem counterUpdate_kept (cycles : Nat) (s : State) : DevicesKept s (counterUpdate cycles s) ∧ (counterUpdate cycles s).ppu = s.ppu ∧
    (counterUpdate cycles s).handedFrame = s.handedFrame ∧ (counterUpdate cycles s).timer.divAcc = s.timer.divAcc := by
  unfold counterUpdate
  split
  · obtain ⟨k, p, f, d, -⟩ := timaTicks_kept ((s.timer.timaAcc + cycles) / timerDivisor s.timer.tmc)
      { s with timer := { s.timer with timaAcc := (s.timer.timaAcc + cycles) % timerDivisor s.timer.tmc } }
    exact ⟨⟨k.cpu, k.mem, k.cart, k.joypad, k.params, k.cycles, k.hostActs, k.ime, k.ie, k.iflag⟩, p, f, d⟩
  · exact ⟨DevicesKept.refl s, rfl, rfl, rfl⟩

/-- The timer's update touches the timer and `IF` alone, and leaves `div_acc` below 256. -/
theorem timerUpdate_kept (cycles : Nat) (s : State) : DevicesKept s (timerUpdate cycles s) ∧ (timerUpdate cycles s).ppu = s.ppu ∧
    (timerUpdate cycles s).handedFrame = s.handedFrame ∧ (timerUpdate cycles s).timer.divAcc < 256 := by
  obtain ⟨k, p, f, d⟩ := counterUpdate_kept cycles { s with timer := divUpdate cycles s.timer }
  refine ⟨⟨k.cpu, k.mem, k.cart, k.joypad, k.params, k.cycles, k.hostActs, k.ime, k.ie, k.iflag⟩, p, f, ?_⟩
  unfold timerUpdate
  rw [d]
  exact Nat.mod_lt _ (by decide)

/-! ## Pixel unit -/

/-- Entering a mode changes `mode`, `STAT` and `IF` alone. -/
theorem enterMode_cases (m : Mode) (s : State) : enterMode m s = setMode m s ∨ enterMode m s = requestInterrupt 1 (setMode m s) := by
  unfold enterMode
  simp only
  split
  · exact .inr rfl
  · exact .inl rfl

theorem setMode_kept (m : Mode) (s : State) : DevicesKept s (setMode m s) := ⟨rfl, rfl, rfl, rfl, rfl, rfl, rfl, rfl, rfl, 0, by simp⟩

theorem enterMode_kept (m : Mode) (s : State) : DevicesKept s (enterMode m s) ∧ (enterMode m s).timer = s.timer ∧
    (enterMode m s).handedFrame = s.handedFrame ∧ (enterMode m s).ppu.mode = m ∧ (enterMode m s).ppu.ly = s.ppu.ly ∧
    (enterMode m s).ppu.acc = s.ppu.acc ∧ (enterMode m s).ppu.fb = s.ppu.fb := by
  rcases enterMode_cases m s with e | e <;> rw [e]
  · exact ⟨setMode_kept m s, rfl, rfl, rfl, rfl, rfl, rfl⟩
  · exact ⟨(setMode_kept m s).trans (requestInterrupt_kept 1 _), rfl, rfl, rfl, rfl, rfl, rfl⟩

/-- Rendering changes the frame buffer alone. -/
theorem renderScanline_eq (line : Nat) (s : State) :
    renderScanline line s = { s with ppu := { s.ppu with fb := (renderScanline line s).ppu.fb } } := by
  unfold renderScanline
  split <;> rfl

theorem setAcc_kept (n : Nat) (s : State) : DevicesKept s (setAcc n s) := ⟨rfl, rfl, rfl, rfl, rfl, rfl, rfl, rfl, rfl, 0, by simp⟩

theorem setLy_kept (v : Byte) (s : State) : DevicesKept s (setLy v s) := ⟨rfl, rfl, rfl, rfl, rfl, rfl, rfl, rfl, rfl, 0, by simp⟩

theorem handFrame_kept (s : State) : DevicesKept s (handFrame s) := ⟨rfl, rfl, rfl, rfl, rfl, rfl, rfl, rfl, rfl, 0, by simp⟩

theorem renderScanline_kept (line : Nat) (s : State) : DevicesKept s (renderScanline line s) ∧ (renderScanline line s).timer = s.timer := by
  rw [renderScanline_eq]
  exact ⟨DevicesKept.mk rfl rfl rfl rfl rfl rfl rfl rfl rfl ⟨0, by simp⟩, rfl⟩

theorem endMode_kept (s : State) : DevicesKept s (endMode s) ∧ (endMode s).timer = s.timer := by
  unfold endMode
  split
  · exact ⟨(enterMode_kept _ _).1, (enterMode_kept _ _).2.1⟩
  · obtain ⟨k, t⟩ := renderScanline_kept s.ppu.ly.toNat s
    exact ⟨k.trans (enterMode_kept _ _).1, (enterMode_kept _ _).2.1.trans t⟩
  · unfold endHBlank
    simp only
    split
    · exact ⟨(((setLy_kept _ s).trans (enterMode_kept _ _).1).trans (requestInterrupt_kept 0 _)).trans (handFrame_kept _),
        (enterMode_kept .vBlank (setLy (s.ppu.ly + 1) s)).2.1⟩
    · exact ⟨(setLy_kept _ s).trans (enterMode_kept _ _).1, (enterMode_kept .oamSearch (setLy (s.ppu.ly + 1) s)).2.1⟩
  · unfold endVBlankLine
    split
    · exact ⟨(setLy_kept _ s).trans (enterMode_kept _ _).1, (enterMode_kept .oamSearch (setLy 0 s)).2.1⟩
    · exact ⟨setLy_kept _ s, rfl⟩

/-- The pixel unit's `execute` touches its own state, `IF` and the hand-over alone. -/
theorem ppuExecute_kept (cycles : Nat) (s : State) : DevicesKept s (ppuExecute cycles s) ∧ (ppuExecute cycles s).timer = s.timer := by
  unfold ppuExecute
  simp only
  split
  · obtain ⟨k, t⟩ := endMode_kept (setAcc (s.ppu.acc + cycles - modeCycles s.ppu.mode) s)
    exact ⟨(setAcc_kept _ s).trans k, t⟩
  · exact ⟨setAcc_kept _ s, rfl⟩

/-! ## Interrupt controller -/

theorem firstPending_lt {p : Byte} {i : Nat} (h : firstPending p = some i) : i < 5 := by
  unfold firstPending at h
  repeat (split at h; · (cases h; decide))
  cases h

theorem firstPending_none {p : Byte} (h : firstPending p = none) : p &&& 0x1F = 0 := by
  revert h
  revert p
  decide +kernel

/-- A pending enabled interrupt stays pending and enabled when more bits of `IF` are set. -/
theorem pending_mono {s t : State} (k : DevicesKept s t) (h : pending s ≠ 0) : pending t ≠ 0 := by
  obtain ⟨m, hm⟩ := k.iflag
  intro hz
  apply h
  unfold pending at hz ⊢
  rw [hm, k.ie] at hz
  apply BitVec.eq_of_getLsbD_eq
  intro j hj
  have zero : BitVec.getLsbD (0 : Byte) j = false := by simp
  have hbit := congrArg (fun x => BitVec.getLsbD x j) hz
  simp only [BitVec.getLsbD_and, BitVec.getLsbD_or, zero, Bool.and_eq_false_iff, Bool.or_eq_false_iff] at hbit ⊢
  exact hbit.imp (fun x => x.imp And.left id) id

/-- A completed dispatch: the push from the acknowledged state, then the vector. -/
theorem takeInterrupt_ok {i : Nat} {s t : State} (h : takeInterrupt i s = .ok t) :
    ∃ u, push16 s.cpu.pc (acknowledge i s) = .ok u ∧ t = setPc (interruptVector i) u := by
  simp only [takeInterrupt, bind, Except.bind] at h
  split at h
  · cases h
  · next u hu =>
    cases h
    exact ⟨u, hu, rfl⟩

/-- The cycles of a dispatch reach the timer and the pixel unit alone, and leave `div_acc` below 256. -/
theorem consume_kept (n : Nat) (s : State) : DevicesKept s (consume n s) ∧ (s.timer.divAcc < 256 → (consume n s).timer.divAcc < 256) := by
  unfold consume
  split
  · exact ⟨DevicesKept.refl s, id⟩
  · obtain ⟨k, -, -, d⟩ := timerUpdate_kept n s
    obtain ⟨k', t⟩ := ppuExecute_kept n (timerUpdate n s)
    exact ⟨k.trans k', fun _ => t ▸ d⟩

/-- `resolve` does nothing, wakes, or dispatches one of the five interrupts and consumes its cycles. -/
theorem resolve_ok {s t : State} (h : resolve s = .ok t) :
    t = s ∨ (s.ints.ime = false ∧ s.cpu.halted = true ∧ t = wake s) ∨
      (s.ints.ime = true ∧ ∃ i u, i < 5 ∧ firstPending (pending s) = some i ∧ takeInterrupt i s = .ok u ∧ t = consume s.params.cycInt u) := by
  unfold resolve at h
  split at h
  · next hi =>
    split at h
    · next i hp =>
      simp only [dispatch, bind, Except.bind] at h
      split at h
      · cases h
      · next u hu => exact .inr (.inr ⟨hi, i, u, firstPending_lt hp, hp, hu, (Except.ok.inj h).symm⟩)
    · exact .inl (Except.ok.inj h).symm
  · next hi =>
    split at h
    · next hc => exact .inr (.inl ⟨by simpa using hi, hc.1, (Except.ok.inj h).symm⟩)
    · exact .inl (Except.ok.inj h).symm

end Sys2Proof.Machine
end

