-- ==== Sys2Proof/Laws/Forms.lean ====
section
/-! SUPPORT. Forms and rows are two views of one instruction, and `exec` of a form's row is the form's shared operation. -/

namespace Sys2Proof

theorem Instr.form_toInstr (i : Instr) : i.form.toInstr = i := by
  cases i <;> rfl

theorem Form.toInstr_form (f : Form) : f.toInstr.form = f := by
  cases f with
  | ldPairNn p nn => cases p <;> rfl
  | addHlPair p => cases p <;> rfl
  | ldAtPtrA p => cases p <;> rfl
  | ldAAtPtr p => cases p <;> rfl
  | incPair p => cases p <;> rfl
  | decPair p => cases p <;> rfl
  | inc v => rcases v with (_ | _ | _ | _ | _ | _ | _) | _ <;> rfl
  | dec v => rcases v with (_ | _ | _ | _ | _ | _ | _) | _ <;> rfl
  | ldN v n => rcases v with (_ | _ | _ | _ | _ | _ | _) | _ <;> rfl
  | accRot o => cases o <;> rfl
  | ldReg dst src => cases dst <;> cases src <;> rfl
  | ldFromHL dst => cases dst <;> rfl
  | ldToHL src => cases src <;> rfl
  | alu op v => rcases v with (_ | _ | _ | _ | _ | _ | _) | _ <;> cases op <;> rfl
  | retCc cc => cases cc <;> rfl
  | pop p => cases p <;> rfl
  | jpCc cc nn => cases cc <;> rfl
  | jrCc cc e => cases cc <;> rfl
  | callCc cc nn => cases cc <;> rfl
  | push p => cases p <;> rfl
  | aluN op n => cases op <;> rfl
  | rst t => cases t <;> rfl
  | undefined u => cases u <;> rfl
  | rot o v => rcases v with (_ | _ | _ | _ | _ | _ | _) | _ <;> cases o <;> rfl
  | bit b v => rcases v with (_ | _ | _ | _ | _ | _ | _) | _ <;> cases b <;> rfl
  | res b v => rcases v with (_ | _ | _ | _ | _ | _ | _) | _ <;> cases b <;> rfl
  | set b v => rcases v with (_ | _ | _ | _ | _ | _ | _) | _ <;> cases b <;> rfl
  | nop | ldAtNnSp | stop | jr | daa | cpl | scf | ccf | halt | ldhAtNA | addSpE | ldhAAtN | ldHlSpE | ret | reti | jpHl | ldSpHl | ldhAtCA
  | ldAtNnA | ldhAAtC | ldAAtNn | jpNn | prefixCb | di | ei | callNn => rfl

end Sys2Proof

namespace Sys2Proof.Machine

/-- What the meaning of a form's row does: a shared operation and its cycle count. -/
def runForm (f : Form) (s : State) : Out :=
  match f with
  | .nop => finish (cost .nop s) (noOp s)
  | .ldAtNnSp nn => finish (cost (.ldAtNnSp nn) s) (storeSp nn s)
  | .stop pad => finish (cost (.stop pad) s) (stopOp pad s)
  | .jr e => finish (cost (.jr e) s) (jr e s)
  | .jrCc cc e => finishIf (cost (.jrCc cc e) s) (costNotTaken (.jrCc cc e) s) (jrCc cc e s)
  | .ldPairNn p nn => finish (cost (.ldPairNn p nn) s) (ldPairImm p nn s)
  | .addHlPair p => finish (cost (.addHlPair p) s) (addHlPair p s)
  | .ldAtPtrA p => finish (cost (.ldAtPtrA p) s) (storeAAtPtr p s)
  | .ldAAtPtr p => finish (cost (.ldAAtPtr p) s) (loadAAtPtr p s)
  | .incPair p => finish (cost (.incPair p) s) (incPair p s)
  | .decPair p => finish (cost (.decPair p) s) (decPair p s)
  | .inc v => finish (cost (.inc v) s) (incLoc v s)
  | .dec v => finish (cost (.dec v) s) (decLoc v s)
  | .ldN v n => finish (cost (.ldN v n) s) (ldImm v n s)
  | .accRot o => finish (cost (.accRot o) s) (accRot o s)
  | .daa => finish (cost .daa s) (daaOp s)
  | .cpl => finish (cost .cpl s) (cplOp s)
  | .scf => finish (cost .scf s) (scfOp s)
  | .ccf => finish (cost .ccf s) (ccfOp s)
  | .ldReg dst src => finish (cost (.ldReg dst src) s) (ldReg dst src s)
  | .ldFromHL dst => finish (cost (.ldFromHL dst) s) (ldFromHL dst s)
  | .ldToHL src => finish (cost (.ldToHL src) s) (ldToHL src s)
  | .halt => finish (cost .halt s) (haltOp s)
  | .alu op v => finish (cost (.alu op v) s) (alu op v s)
  | .retCc cc => finishIf (cost (.retCc cc) s) (costNotTaken (.retCc cc) s) (retCc cc s)
  | .ldhAtNA n => finish (cost (.ldhAtNA n) s) (ldhNA n s)
  | .addSpE e => finish (cost (.addSpE e) s) (addSpE e s)
  | .ldhAAtN n => finish (cost (.ldhAAtN n) s) (ldhAN n s)
  | .ldHlSpE e => finish (cost (.ldHlSpE e) s) (ldHlSpE e s)
  | .pop p => finish (cost (.pop p) s) (popPair p s)
  | .ret => finish (cost .ret s) (ret s)
  | .reti => finish (cost .reti s) (reti s)
  | .jpHl => finish (cost .jpHl s) (jpHl s)
  | .ldSpHl => finish (cost .ldSpHl s) (ldSpHl s)
  | .jpCc cc nn => finishIf (cost (.jpCc cc nn) s) (costNotTaken (.jpCc cc nn) s) (jpCc cc nn s)
  | .ldhAtCA => finish (cost .ldhAtCA s) (ldhCA s)
  | .ldAtNnA nn => finish (cost (.ldAtNnA nn) s) (storeAAt nn s)
  | .ldhAAtC => finish (cost .ldhAAtC s) (ldhAC s)
  | .ldAAtNn nn => finish (cost (.ldAAtNn nn) s) (loadAAt nn s)
  | .jpNn nn => finish (cost (.jpNn nn) s) (jp nn s)
  | .prefixCb op2 => extendedOp op2 s
  | .di => finish (cost .di s) (diOp s)
  | .ei => finish (cost .ei s) (eiOp s)
  | .callCc cc nn => finishIf (cost (.callCc cc nn) s) (costNotTaken (.callCc cc nn) s) (callCc cc nn s)
  | .push p => finish (cost (.push p) s) (pushPair p s)
  | .callNn nn => finish (cost (.callNn nn) s) (call nn s)
  | .aluN op n => finish (cost (.aluN op n) s) (aluImm op n s)
  | .rst t => finish (cost (.rst t) s) (rst t s)
  | .undefined u => undefinedOp u s
  | .rot o v => finish (cost (.rot o v) s) (rot o v s)
  | .bit b v => finish (cost (.bit b v) s) (bitTest b v s)
  | .res b v => finish (cost (.res b v) s) (resBit b v s)
  | .set b v => finish (cost (.set b v) s) (setBit b v s)

/-- `exec` of a form's row, once for all rows. -/
theorem exec_toInstr (f : Form) (s : State) : exec f.toInstr s = runForm f s := by
  cases f with
  | ldPairNn p nn => cases p <;> rfl
  | addHlPair p => cases p <;> rfl
  | ldAtPtrA p => cases p <;> rfl
  | ldAAtPtr p => cases p <;> rfl
  | incPair p => cases p <;> rfl
  | decPair p => cases p <;> rfl
  | inc v => rcases v with (_ | _ | _ | _ | _ | _ | _) | _ <;> rfl
  | dec v => rcases v with (_ | _ | _ | _ | _ | _ | _) | _ <;> rfl
  | ldN v n => rcases v with (_ | _ | _ | _ | _ | _ | _) | _ <;> rfl
  | accRot o => cases o <;> rfl
  | ldReg dst src => cases dst <;> cases src <;> rfl
  | ldFromHL dst => cases dst <;> rfl
  | ldToHL src => cases src <;> rfl
  | alu op v => rcases v with (_ | _ | _ | _ | _ | _ | _) | _ <;> cases op <;> rfl
  | retCc cc => cases cc <;> rfl
  | pop p => cases p <;> rfl
  | jpCc cc nn => cases cc <;> rfl
  | jrCc cc e => cases cc <;> rfl
  | callCc cc nn => cases cc <;> rfl
  | push p => cases p <;> rfl
  | aluN op n => cases op <;> rfl
  | rst t => cases t <;> rfl
  | undefined u => cases u <;> rfl
  | rot o v => rcases v with (_ | _ | _ | _ | _ | _ | _) | _ <;> cases o <;> rfl
  | bit b v => rcases v with (_ | _ | _ | _ | _ | _ | _) | _ <;> cases b <;> rfl
  | res b v => rcases v with (_ | _ | _ | _ | _ | _ | _) | _ <;> cases b <;> rfl
  | set b v => rcases v with (_ | _ | _ | _ | _ | _ | _) | _ <;> cases b <;> rfl
  | nop | ldAtNnSp | stop | jr | daa | cpl | scf | ccf | halt | ldhAtNA | addSpE | ldhAAtN | ldHlSpE | ret | reti | jpHl | ldSpHl | ldhAtCA
  | ldAtNnA | ldhAAtC | ldAAtNn | jpNn | prefixCb | di | ei | callNn => rfl

/-- The table's bytes of an extended instruction. -/
theorem encode_decodeExtended (op2 : Byte) : encode prefixByte (decodeExtended op2).toInstr = [prefixByte, op2] := by
  revert op2
  decide +kernel

/-- The figure of an extended instruction. -/
theorem cost_decodeExtended (op2 : Byte) (s : State) : cost (decodeExtended op2) s = cycCb op2 s := by
  simp only [cost, encode_decodeExtended, if_true]

/-- The prefix row's meaning is that of the extended instruction its second byte selects. -/
theorem extendedOp_eq (op2 : Byte) (s : State) : extendedOp op2 s = runForm (decodeExtended op2) s := by
  have hc := cost_decodeExtended op2 s
  have hx : fieldX op2 = 0 ∨ fieldX op2 = 1 ∨ fieldX op2 = 2 ∨ fieldX op2 = 3 := by
    have h := op2.isLt
    unfold fieldX
    omega
  rcases hx with h | h | h | h <;> simp only [decodeExtended, h] at hc <;> simp only [extendedOp, decodeExtended, h, runForm, hc]

/-- Any instruction is some form's row. -/
theorem exec_form (i : Instr) (s : State) : exec i s = runForm i.form s := by
  rw [← exec_toInstr, Instr.form_toInstr]

/-! ## The end of a meaning -/

theorem finish_next {n : Nat} {r : Except Fault State} {t : State} (h : finish n r = .next t) : ∃ u, r = .ok u ∧ t = { u with cycles := n } := by
  cases r with
  | ok u => exact ⟨u, rfl, (Host.Outcome.next.inj h).symm⟩
  | error f => cases h

theorem finishIf_next {n m : Nat} {r : Except Fault (Bool × State)} {t : State} (h : finishIf n m r = .next t) :
    ∃ b u, r = .ok (b, u) ∧ t = { u with cycles := if b then n else m } := by
  rcases r with f | ⟨_ | _, u⟩
  · cases h
  · exact ⟨false, u, rfl, (Host.Outcome.next.inj h).symm⟩
  · exact ⟨true, u, rfl, (Host.Outcome.next.inj h).symm⟩

end Sys2Proof.Machine
end

