-- ==== Sys2Proof/Laws/Effects.lean ====
section
/-! SUPPORT. What any instruction can do to the state outside the CPU, once: it stores to the addresses `storeTargets` names, in order, and changes
nothing else but CPU registers, `IME` and the cycle count. -/

namespace Sys2Proof.Machine

/-- `t` is `s` but for CPU registers, `IME` and the cycle count. -/
def CpuOnly (s t : State) : Prop := t = { s with cpu := t.cpu, cycles := t.cycles, ints := { s.ints with ime := t.ints.ime } }

/-- `t` is reached from `s` by one store to each of the addresses, in order, and then a `CpuOnly` change. -/
def StoresTo (targets : List Word) (s t : State) : Prop :=
  match targets with
  | [] => CpuOnly s t
  | a :: rest => ∃ v u, memWrite a v s = .ok u ∧ StoresTo rest u t

theorem CpuOnly.refl (s : State) : CpuOnly s s := rfl

theorem CpuOnly.trans {s t u : State} (h : CpuOnly s t) (k : CpuOnly t u) : CpuOnly s u := by
  unfold CpuOnly at *
  rw [k, h]

theorem StoresTo.cpuOnly {targets : List Word} {s t u : State} (h : StoresTo targets s t) (k : CpuOnly t u) : StoresTo targets s u := by
  induction targets generalizing s with
  | nil => exact CpuOnly.trans h k
  | cons a rest ih =>
    obtain ⟨v, w, hw, h⟩ := h
    exact ⟨v, w, hw, ih h⟩

theorem storesTo_one {a : Word} {v : Byte} {s t : State} (h : memWrite a v s = .ok t) : StoresTo [a] s t := ⟨v, t, h, CpuOnly.refl t⟩

theorem storesTo_two {a b : Word} {v w : Byte} {s t u : State} (h : memWrite a v s = .ok t) (k : memWrite b w t = .ok u) : StoresTo [a, b] s u :=
  ⟨v, t, h, storesTo_one k⟩

theorem storesTo_loc {v : Loc8} {x : Byte} {s t : State} (h : writeLoc v x s = .ok t) : StoresTo (locTargets v s) s t := by
  cases v with
  | reg r =>
    cases h
    cases r <;> rfl
  | atHL => exact storesTo_one h

theorem storesTo_push {w : Word} {s t : State} (h : push16 w s = .ok t) : StoresTo (pushTargets s) s t := by
  obtain ⟨s1, s2, h1, h2, -, rfl⟩ := push16_ok h
  exact (storesTo_two h1 h2).cpuOnly rfl

theorem cpuOnly_setReg (r : Reg8) (v : Byte) (s : State) : CpuOnly s (setReg r v s) := by
  cases r <;> rfl

theorem cpuOnly_setPair (p : Pair) (w : Word) (s : State) : CpuOnly s (setPair p w s) := by
  cases p <;> rfl

theorem cpuOnly_setStackPair (p : StackPair) (w : Word) (s : State) : CpuOnly s (setStackPair p w s) := by
  cases p <;> rfl

theorem cpuOnly_pointerStep (p : Pointer) (s : State) : CpuOnly s (pointerStep p s) := by
  cases p <;> rfl

theorem cpuOnly_aluOn (op : AluOp) (v : Byte) (s : State) : CpuOnly s (aluOn op v s) := by
  cases op <;> rfl

/-- A completed bind: its first part, then its second. -/
theorem bind_ok {α β : Type} {x : Except Fault α} {g : α → Except Fault β} {b : β} (h : (x >>= g) = .ok b) : ∃ a, x = .ok a ∧ g a = .ok b := by
  cases x with
  | error => cases h
  | ok a => exact ⟨a, rfl, h⟩

/-- A completed conditional operation took the branch its flag names. -/
theorem taken_ok {b c : Bool} {t u : State} (h : (.ok (b, t) : Except Fault (Bool × State)) = .ok (c, u)) : b = c ∧ t = u :=
  Prod.mk.inj (Except.ok.inj h)

theorem storesTo_call {nn : Word} {s t : State} (h : call nn s = .ok t) : StoresTo (pushTargets s) s t := by
  obtain ⟨w, hw, h⟩ := bind_ok h
  rw [← Except.ok.inj h]
  exact (storesTo_push hw).cpuOnly rfl

theorem cpuOnly_ret {s t : State} (h : ret s = .ok t) : CpuOnly s t := by
  obtain ⟨⟨w, u⟩, hw, h⟩ := bind_ok h
  obtain ⟨-, -, rfl⟩ := pop16_ok hw
  rw [← Except.ok.inj h]
  rfl

theorem cpuOnly_reti {s t : State} (h : reti s = .ok t) : CpuOnly s t := by
  obtain ⟨⟨w, u⟩, hw, h⟩ := bind_ok h
  obtain ⟨-, -, rfl⟩ := pop16_ok hw
  rw [← Except.ok.inj h]
  rfl

theorem cpuOnly_popPair {p : StackPair} {s t : State} (h : popPair p s = .ok t) : CpuOnly s t := by
  obtain ⟨⟨w, u⟩, hw, h⟩ := bind_ok h
  obtain ⟨-, -, rfl⟩ := pop16_ok hw
  rw [← Except.ok.inj h]
  exact CpuOnly.trans (t := setSp (s.cpu.sp + 2) s) rfl (cpuOnly_setStackPair ..)

theorem cpuOnly_loadAAt {a : Word} {s t : State} (h : loadAAt a s = .ok t) : CpuOnly s t := by
  obtain ⟨x, -, h⟩ := bind_ok h
  rw [← Except.ok.inj h]
  exact cpuOnly_setReg ..

theorem cpuOnly_ldFromHL {dst : Reg8} {s t : State} (h : ldFromHL dst s = .ok t) : CpuOnly s t := by
  obtain ⟨x, -, h⟩ := bind_ok h
  rw [← Except.ok.inj h]
  exact cpuOnly_setReg ..

theorem cpuOnly_alu {op : AluOp} {v : Loc8} {s t : State} (h : alu op v s = .ok t) : CpuOnly s t := by
  obtain ⟨x, -, h⟩ := bind_ok h
  rw [← Except.ok.inj h]
  exact cpuOnly_aluOn ..

theorem cpuOnly_bitTest {b : Three} {v : Loc8} {s t : State} (h : bitTest b v s = .ok t) : CpuOnly s t := by
  obtain ⟨x, -, h⟩ := bind_ok h
  rw [← Except.ok.inj h]
  rfl

theorem cpuOnly_ei {s t : State} (h : eiOp s = .ok t) : CpuOnly s t := by
  unfold eiOp at h
  split at h <;> rw [← Except.ok.inj h] <;> rfl

theorem cpuOnly_di {s t : State} (h : diOp s = .ok t) : CpuOnly s t := by
  unfold diOp at h
  split at h <;> rw [← Except.ok.inj h] <;> rfl

/-- A read, a computation and one write back. -/
theorem storesTo_readWrite {v : Loc8} {s t : State} {f : Byte → Byte} (h : (readLoc v s >>= fun x => writeLoc v (f x) s) = .ok t) :
    StoresTo (locTargets v s) s t := by
  obtain ⟨x, -, h⟩ := bind_ok h
  exact storesTo_loc h

/-- A read, a computation, one write back and the flags. -/
theorem storesTo_readWriteFlags {v : Loc8} {s t : State} {f : Byte → Alu}
    (h : (readLoc v s >>= fun x => writeLoc v (f x).val s >>= fun u => .ok (setAluFlags (f x) u)) = .ok t) : StoresTo (locTargets v s) s t := by
  obtain ⟨x, -, h⟩ := bind_ok h
  obtain ⟨u, hu, h⟩ := bind_ok h
  rw [← Except.ok.inj h]
  exact (storesTo_loc hu).cpuOnly rfl

/-- A conditional jump. -/
theorem cpuOnly_jump {b c : Bool} {w : Word} {s t : State} (h : (.ok (b, if b then setPc w s else s) : Except Fault (Bool × State)) = .ok (c, t)) :
    CpuOnly s t := by
  rw [← (taken_ok h).2]
  split <;> rfl

theorem storesTo_callCc {cc : Cond} {nn : Word} {s t : State} {b : Bool} (h : callCc cc nn s = .ok (b, t)) :
    StoresTo (if cond cc s then pushTargets s else []) s t := by
  unfold callCc at h
  split at h
  · next hc =>
    rw [if_pos hc]
    obtain ⟨u, hu, h⟩ := bind_ok h
    rw [← (taken_ok h).2]
    exact storesTo_call hu
  · next hc =>
    rw [if_neg hc, ← (taken_ok h).2]
    exact CpuOnly.refl s

theorem cpuOnly_retCc {cc : Cond} {s t : State} {b : Bool} (h : retCc cc s = .ok (b, t)) : CpuOnly s t := by
  unfold retCc at h
  split at h
  · obtain ⟨u, hu, h⟩ := bind_ok h
    rw [← (taken_ok h).2]
    exact cpuOnly_ret hu
  · rw [← (taken_ok h).2]
    exact CpuOnly.refl s

theorem storesTo_storeAAtPtr {p : Pointer} {s t : State} (h : storeAAtPtr p s = .ok t) : StoresTo [pointerAddr p s] s t := by
  obtain ⟨u, hu, h⟩ := bind_ok h
  rw [← Except.ok.inj h]
  exact (storesTo_one hu).cpuOnly (cpuOnly_pointerStep ..)

theorem cpuOnly_loadAAtPtr {p : Pointer} {s t : State} (h : loadAAtPtr p s = .ok t) : CpuOnly s t := by
  obtain ⟨u, hu, h⟩ := bind_ok h
  rw [← Except.ok.inj h]
  exact (cpuOnly_loadAAt hu).trans (cpuOnly_pointerStep ..)

theorem storesTo_storeSp {nn : Word} {s t : State} (h : storeSp nn s = .ok t) : StoresTo [nn, nn + 1] s t := by
  obtain ⟨u, hu, h⟩ := bind_ok h
  exact storesTo_two hu h

theorem storesTo_cycles {targets : List Word} {n : Nat} {r : Except Fault State} {s t : State} (h : finish n r = .next t)
    (k : ∀ u, r = .ok u → StoresTo targets s u) : StoresTo targets s t := by
  obtain ⟨u, hu, rfl⟩ := finish_next h
  exact (k u hu).cpuOnly rfl

/-- An operation that cannot fail. -/
theorem cpuOnly_pure {n : Nat} {s t u : State} (h : finish n (.ok u) = .next t) (k : CpuOnly s u) : CpuOnly s t := by
  rw [← Host.Outcome.next.inj h]
  exact k.trans rfl

theorem storesTo_cyclesIf {targets : List Word} {n m : Nat} {r : Except Fault (Bool × State)} {s t : State} (h : finishIf n m r = .next t)
    (k : ∀ b u, r = .ok (b, u) → StoresTo targets s u) : StoresTo targets s t := by
  obtain ⟨b, u, hu, rfl⟩ := finishIf_next h
  exact (k b u hu).cpuOnly rfl

/-- Every form but the prefix row. -/
theorem runForm_stores (f : Form) (s t : State) (hf : ∀ op2, f ≠ .prefixCb op2) (h : runForm f s = .next t) : StoresTo (storeTargets f s) s t := by
  cases f with
  | prefixCb op2 => exact absurd rfl (hf op2)
  | undefined u =>
    simp only [runForm, undefinedOp] at h
    split at h
    · cases h
    · exact cpuOnly_pure h rfl
  | jrCc cc e => exact storesTo_cyclesIf h fun b u hu => cpuOnly_jump hu
  | jpCc cc nn => exact storesTo_cyclesIf h fun b u hu => cpuOnly_jump hu
  | callCc cc nn => exact storesTo_cyclesIf h fun b u hu => storesTo_callCc hu
  | retCc cc => exact storesTo_cyclesIf h fun b u hu => cpuOnly_retCc hu
  | ldPairNn p nn => exact cpuOnly_pure h (cpuOnly_setPair ..)
  | incPair p => exact cpuOnly_pure h (cpuOnly_setPair ..)
  | decPair p => exact cpuOnly_pure h (cpuOnly_setPair ..)
  | inc v => exact storesTo_cycles h fun u hu => storesTo_readWriteFlags (f := fun x => incByte x (cf s)) hu
  | dec v => exact storesTo_cycles h fun u hu => storesTo_readWriteFlags (f := fun x => decByte x (cf s)) hu
  | rot o v => exact storesTo_cycles h fun u hu => storesTo_readWriteFlags (f := fun x => rotCompute o x (cf s)) hu
  | res b v =>
    exact storesTo_cycles h fun u hu => storesTo_readWrite (f := fun x => x &&& (0xFF ^^^ BitVec.ofNat 8 (2 ^ threeVal b))) hu
  | set b v => exact storesTo_cycles h fun u hu => storesTo_readWrite (f := fun x => x ||| BitVec.ofNat 8 (2 ^ threeVal b)) hu
  | bit b v => exact storesTo_cycles h fun u hu => cpuOnly_bitTest hu
  | alu op v => exact storesTo_cycles h fun u hu => cpuOnly_alu hu
  | aluN op n => exact cpuOnly_pure h (cpuOnly_aluOn ..)
  | ldN v n => exact storesTo_cycles h fun u hu => storesTo_loc hu
  | ldToHL r => exact storesTo_cycles h fun u hu => storesTo_one hu
  | ldhAtNA n => exact storesTo_cycles h fun u hu => storesTo_one hu
  | ldhAtCA => exact storesTo_cycles h fun u hu => storesTo_one hu
  | ldAtNnA nn => exact storesTo_cycles h fun u hu => storesTo_one hu
  | ldAtPtrA p => exact storesTo_cycles h fun u hu => storesTo_storeAAtPtr hu
  | ldAtNnSp nn => exact storesTo_cycles h fun u hu => storesTo_storeSp hu
  | push p => exact storesTo_cycles h fun u hu => storesTo_push hu
  | callNn nn => exact storesTo_cycles h fun u hu => storesTo_call hu
  | rst r => exact storesTo_cycles h fun u hu => storesTo_call hu
  | pop p => exact storesTo_cycles h fun u hu => cpuOnly_popPair hu
  | ret => exact storesTo_cycles h fun u hu => cpuOnly_ret hu
  | reti => exact storesTo_cycles h fun u hu => cpuOnly_reti hu
  | ldAAtPtr p => exact storesTo_cycles h fun u hu => cpuOnly_loadAAtPtr hu
  | ldAAtNn nn => exact storesTo_cycles h fun u hu => cpuOnly_loadAAt hu
  | ldhAAtN n => exact storesTo_cycles h fun u hu => cpuOnly_loadAAt hu
  | ldhAAtC => exact storesTo_cycles h fun u hu => cpuOnly_loadAAt hu
  | ldFromHL dst => exact storesTo_cycles h fun u hu => cpuOnly_ldFromHL hu
  | ldReg dst r => exact cpuOnly_pure h (cpuOnly_setReg ..)
  | ei => exact storesTo_cycles h fun u hu => cpuOnly_ei hu
  | di => exact storesTo_cycles h fun u hu => cpuOnly_di hu
  | nop | stop | jr | addHlPair | accRot | daa | cpl | scf | ccf | halt | addSpE | ldHlSpE | jpHl | ldSpHl | jpNn =>
    exact cpuOnly_pure h rfl

/-- The prefix row stores what the extended instruction it selects stores. -/
theorem storeTargets_prefix (op2 : Byte) (s : State) : storeTargets (.prefixCb op2) s = storeTargets (decodeExtended op2) s := by
  unfold decodeExtended
  split <;> simp only [storeTargets, decodeExtended, extendedTargets, *]

/-- Every instruction, when it completes: one store to each of `storeTargets`, in order, and nothing else outside the CPU. -/
theorem exec_stores (f : Form) (s t : State) (h : exec f.toInstr s = .next t) : StoresTo (storeTargets f s) s t := by
  rw [exec_toInstr] at h
  by_cases hp : ∃ op2, f = .prefixCb op2
  · obtain ⟨op2, rfl⟩ := hp
    rw [storeTargets_prefix]
    have hx : runForm (decodeExtended op2) s = .next t := by
      rw [← extendedOp_eq]
      exact h
    refine runForm_stores _ s t (fun op2' => ?_) hx
    unfold decodeExtended
    split <;> simp
  · exact runForm_stores f s t (fun op2 e => hp ⟨op2, e⟩) h

end Sys2Proof.Machine
end

