-- ==== Sys2Proof/Laws/Invariants.lean ====
section
/-! SUPPORT. Every memory operation keeps the canonical form of memory, the mirror of work RAM and the bank controller's invariant. -/

namespace Sys2Proof.Machine

/-! ## The canonical form of `M` -/

theorem memOk_setCell {a : Nat} {v : Byte} {s : State} (h : MemOk s) (ha : isPlain a = true ∨ isWork a = true) : MemOk (setCell a v s) := by
  refine ⟨Memory.wf_write _ _ _ h.1, fun c hc => ?_⟩
  rcases Memory.mem_write hc with rfl | hc
  · simpa using ha
  · exact h.2 c hc

theorem memOk_workWrite {a : Nat} {v : Byte} {s : State} (h : MemOk s) (ha : isWork a = true) : MemOk (workWrite a v s) := by
  have hr := (isWork_iff a).mp ha
  unfold workWrite
  split
  · exact memOk_setCell (memOk_setCell h (.inr ha)) (.inr ((isWork_iff _).mpr (by omega)))
  · split
    · exact memOk_setCell h (.inr ha)
    · exact memOk_setCell (memOk_setCell h (.inr ha)) (.inr ((isWork_iff _).mpr (by omega)))

theorem memOk_dmaCopy {src : Byte} {n i : Nat} {s t : State} (hn : i + n ≤ 160) (h : MemOk s) (hc : dmaCopy src n i s = .ok t) : MemOk t := by
  induction n generalizing i s with
  | zero =>
    rw [← Except.ok.inj hc]
    exact h
  | succ n ih =>
    obtain ⟨b, -, hc⟩ := bind_ok hc
    exact ih (by omega) (memOk_setCell h (.inl ((isPlain_iff _).mpr (by omega)))) hc

/-- A change of anything but `M`. -/
theorem memOk_congr {s t : State} (h : MemOk s) (e : t.mem = s.mem) : MemOk t := by
  unfold MemOk at *
  rw [e]
  exact h

theorem echoOk_congr {s t : State} (h : EchoOk s) (e : t.mem = s.mem) : EchoOk t := by
  unfold EchoOk at *
  rw [e]
  exact h

/-- A register write changes no cell of `M`. -/
theorem highWrite_mem {a : Nat} {v : Byte} {s : State} (h : inRegisters a) : (highWrite a v s).mem = s.mem ∧ (highWrite a v s).cart = s.cart := by
  rcases highWrite_register a v s h with ⟨-, e⟩ | ⟨-, e⟩ | ⟨-, e⟩ | ⟨-, e⟩ | ⟨-, e⟩ | ⟨-, e⟩ | ⟨-, e⟩ | ⟨-, e⟩ <;> rw [e] <;> exact ⟨rfl, rfl⟩

/-- Every completed bus write keeps the canonical form of `M`. -/
theorem memOk_memWrite {a : Word} {v : Byte} {s t : State} (h : MemOk s) (hw : memWrite a v s = .ok t) : MemOk t := by
  rcases memWrite_cases hw with ⟨-, rfl⟩ | ⟨hr, rfl⟩ | ⟨hr, rfl⟩ | ⟨-, rfl⟩ | ⟨-, hd⟩ | ⟨hr, rfl⟩
  · exact h
  · exact memOk_workWrite h hr
  · exact memOk_setCell h (.inl hr)
  · exact h
  · exact memOk_dmaCopy (s := { s with ppu := setPpuRegister s.ppu 0xFF46 v }) (by omega) h hd
  · exact memOk_congr h (highWrite_mem hr).1

/-! ## The mirror -/

/-- Every completed bus write keeps echo RAM equal to work RAM. -/
theorem echoOk_memWrite {a : Word} {v : Byte} {s t : State} (h : EchoOk s) (hw : memWrite a v s = .ok t) : EchoOk t := by
  rcases memWrite_cases hw with ⟨-, rfl⟩ | ⟨hr, rfl⟩ | ⟨hr, rfl⟩ | ⟨-, rfl⟩ | ⟨-, hd⟩ | ⟨hr, rfl⟩
  · exact h
  · have hr := (isWork_iff _).mp hr
    intro b h1 h2
    rw [workWrite_read, workWrite_read]
    by_cases hb : b = a.toNat ∨ b + 0x2000 = a.toNat
    · rw [if_pos (by omega), if_pos (by omega)]
    · rw [if_neg (by omega), if_neg (by omega)]
      exact h b h1 h2
  · have hr := (isPlain_iff _).mp hr
    intro b h1 h2
    simp only [setCell_mem]
    rw [Memory.read_write_other _ _ _ _ (by omega), Memory.read_write_other _ _ _ _ (by omega)]
    exact h b h1 h2
  · exact h
  · obtain ⟨-, keep, -⟩ := dmaWrite_ok hd
    intro b h1 h2
    rw [keep _ (by omega), keep _ (by omega)]
    exact h b h1 h2
  · exact echoOk_congr h (highWrite_mem hr).1

/-! ## The bank controller -/

theorem mbc1Ok_write {p : Params} {m : Mbc1} {a : Word} {v : Byte} (h : Mbc1Ok m) (ha : inCart a.toNat) : Mbc1Ok (mbc1Write p m a v) := by
  obtain ⟨h0, h1, h2, h3, hw, hc⟩ := h
  unfold mbc1Write
  split
  · exact ⟨h0, h1, h2, h3, hw, hc⟩
  split
  · obtain ⟨r0, r1, r2, r3⟩ := mbc1Remap_ne ((m.romBank &&& 0x60) ||| (v &&& 0x1F).setWidth 7)
    exact ⟨r0, r1, r2, r3, hw, hc⟩
  split
  · unfold mbc1SetHigh
    split
    · obtain ⟨r0, r1, r2, r3⟩ := mbc1Remap_ne ((m.romBank &&& (0x1F : BitVec 7)) ||| (((v &&& (0x03 : Byte)).setWidth 7) <<< 5))
      exact ⟨r0, r1, r2, r3, hw, hc⟩
    · exact ⟨h0, h1, h2, h3, hw, hc⟩
  split
  · exact ⟨h0, h1, h2, h3, hw, hc⟩
  split
  · refine ⟨h0, h1, h2, h3, Memory.wf_write _ _ _ hw, fun c hm => ?_⟩
    rcases Memory.mem_write hm with rfl | hm
    · have hb := m.ramBank.isLt
      unfold inCart at ha
      simp only [mbc1RamOffset]
      omega
    · exact hc c hm
  · exact ⟨h0, h1, h2, h3, hw, hc⟩

theorem mbc2Ok_write {p : Params} {m : Mbc2} {a : Word} {v : Byte} (h : Mbc2Ok m) : Mbc2Ok (mbc2Write p m a v) := by
  obtain ⟨h0, hw, hc⟩ := h
  unfold mbc2Write
  split
  · exact ⟨h0, hw, hc⟩
  split
  · split
    · exact ⟨mbc2Bank_ne v, hw, hc⟩
    · exact ⟨h0, hw, hc⟩
  split
  · exact ⟨h0, hw, hc⟩
  split
  · next hr =>
    refine ⟨h0, Memory.wf_write _ _ _ hw, fun c hm => ?_⟩
    rcases Memory.mem_write hm with rfl | hm
    · exact ⟨by omega, low_nibble_lt v⟩
    · exact hc c hm
  · exact ⟨h0, hw, hc⟩

/-- Every completed bus write keeps the bank controller's invariant. -/
theorem mbcOk_memWrite {a : Word} {v : Byte} {s t : State} (h : MbcOk s.cart.mbc) (hw : memWrite a v s = .ok t) : MbcOk t.cart.mbc := by
  rcases memWrite_cases hw with ⟨hr, rfl⟩ | ⟨hr, rfl⟩ | ⟨hr, rfl⟩ | ⟨-, rfl⟩ | ⟨-, hd⟩ | ⟨hr, rfl⟩
  · simp only [cartWrite]
    cases hm : s.cart.mbc with
    | romOnly =>
      simp only
      rw [hm]
      trivial
    | mbc1 m =>
      rw [hm] at h
      exact mbc1Ok_write h hr
    | mbc2 m =>
      rw [hm] at h
      exact mbc2Ok_write h
  · rw [workWrite_eq]
    exact h
  · exact h
  · exact h
  · rw [(dmaWrite_ok hd).1]
    exact h
  · rw [(highWrite_mem hr).2]
    exact h

/-! ## Stores -/

/-- What every completed bus write and every change of the CPU alone keeps, an instruction keeps. -/
theorem StoresTo.keeps {P : State → Prop} (hw : ∀ a v s t, P s → memWrite a v s = .ok t → P t) (hc : ∀ s t, P s → CpuOnly s t → P t)
    {targets : List Word} {s t : State} (h : StoresTo targets s t) (hs : P s) : P t := by
  induction targets generalizing s with
  | nil => exact hc s t hs h
  | cons a rest ih =>
    obtain ⟨v, u, hm, h⟩ := h
    exact ih h (hw a v s u hs hm)

end Sys2Proof.Machine
end

