-- ==== Sys2Proof/Laws/Results.lean ====
section
/-! SUPPORT. What each result and flag computation and each shared operation gives, in numbers and in the words of Safety.lean. -/

namespace Sys2Proof.Machine

/-! ## Flags -/

theorem setFlags_eq (z n h c : Bool) (s : State) : setFlags z n h c s = withF (packFlags z n h c) s := by
  have e : packFlags z n h c &&& 0xF0 = packFlags z n h c := packFlags_mask z n h c
  simp only [setFlags, setF, e]
  rfl

/-- The four flags read back, and the low nibble of `F` is zero. -/
theorem setFlags_flags (z n h c : Bool) (s : State) :
    zf (setFlags z n h c s) = z ∧ nf (setFlags z n h c s) = n ∧ hf (setFlags z n h c s) = h ∧ cf (setFlags z n h c s) = c ∧
      FlagsOk (setFlags z n h c s) := by
  obtain ⟨h7, h6, h5, h4⟩ := packFlags_bits z n h c
  rw [setFlags_eq]
  exact ⟨h7, h6, h5, h4, packFlags_low z n h c⟩

theorem isZero_eq (n : Nat) : decide (BitVec.ofNat 8 n = 0) = isZero n := by
  unfold isZero
  congr 1
  apply propext
  constructor
  · intro h
    simpa using congrArg BitVec.toNat h
  · intro h
    apply BitVec.eq_of_toNat_eq
    simpa using h

/-! ## Results -/

theorem subByte_val (a v : Byte) (c : Bool) : (subByte a v c).val = BitVec.ofNat 8 (a.toNat + 512 - v.toNat - c.toNat) := by
  have ha := a.isLt
  have hv := v.isLt
  have hc := Bool.toNat_le c
  apply BitVec.eq_of_toNat_eq
  simp only [subByte, BitVec.toNat_sub, BitVec.toNat_ofNat]
  omega

theorem rotCompute_val (o : RotOp) (x : Byte) (c : Bool) : (rotCompute o x c).val = BitVec.ofNat 8 (rotResult o x.toNat c.toNat) := by
  have all : ∀ x : BitVec 8, (rotCompute o x c).val = BitVec.ofNat 8 (rotResult o x.toNat c.toNat) := by
    cases o <;> cases c <;> decide +revert
  exact all x

theorem rotCompute_c (o : RotOp) (x : Byte) (c : Bool) : (rotCompute o x c).c = rotCarry o x.toNat := by
  have all : ∀ x : BitVec 8, (rotCompute o x c).c = rotCarry o x.toNat := by
    cases o <;> cases c <;> decide +revert
  exact all x

theorem rotCompute_flags (o : RotOp) (x : Byte) (c : Bool) :
    (rotCompute o x c).n = false ∧ (rotCompute o x c).h = false ∧ (rotCompute o x c).z = decide ((rotCompute o x c).val = 0) := by
  cases o <;> exact ⟨rfl, rfl, rfl⟩

theorem bit_number (x : Byte) (b : Three) : (!bit x (threeVal b)) = decide (x.toNat / 2 ^ threeVal b % 2 = 0) := by
  have all : ∀ x : BitVec 8, (!bit x (threeVal b)) = decide (x.toNat / 2 ^ threeVal b % 2 = 0) := by
    cases b <;> decide +revert
  exact all x

theorem clearBit_number (x : Byte) (b : Three) :
    x &&& (0xFF ^^^ BitVec.ofNat 8 (2 ^ threeVal b)) = BitVec.ofNat 8 (x.toNat - x.toNat / 2 ^ threeVal b % 2 * 2 ^ threeVal b) := by
  have all : ∀ x : BitVec 8, x &&& (0xFF ^^^ BitVec.ofNat 8 (2 ^ threeVal b)) =
      BitVec.ofNat 8 (x.toNat - x.toNat / 2 ^ threeVal b % 2 * 2 ^ threeVal b) := by
    cases b <;> decide +revert
  exact all x

theorem setBit_number (x : Byte) (b : Three) :
    x ||| BitVec.ofNat 8 (2 ^ threeVal b) = BitVec.ofNat 8 (x.toNat + (1 - x.toNat / 2 ^ threeVal b % 2) * 2 ^ threeVal b) := by
  have all : ∀ x : BitVec 8, x ||| BitVec.ofNat 8 (2 ^ threeVal b) =
      BitVec.ofNat 8 (x.toNat + (1 - x.toNat / 2 ^ threeVal b % 2) * 2 ^ threeVal b) := by
    cases b <;> decide +revert
  exact all x

theorem highPage_eq (b : Byte) : highPage b = 0xFF00 + b.setWidth 16 := by
  have h := b.isLt
  apply BitVec.eq_of_toNat_eq
  have h1 : (0xFF : Byte).toNat = 255 := rfl
  have h2 : (0xFF00 : Word).toNat = 65280 := rfl
  simp only [highPage, cat_toNat, BitVec.toNat_add, BitVec.toNat_setWidth, h1, h2]
  omega

/-! ## Shared operations -/

/-- `alu[a]` with an operand that can be read. -/
theorem exec_alu (src : Source) (op : AluOp) (v : Byte) (s : State) (h : src.value s = .ok v) :
    exec (src.form op).toInstr s = .next { aluOn op v s with cycles := cost (src.form op) s } := by
  cases src with
  | imm n =>
    cases h
    rw [Source.form, exec_toInstr]
    rfl
  | loc l =>
    rw [Source.form, exec_toInstr]
    simp only [Source.value] at h
    simp only [runForm, alu, bind, Except.bind, h, finish]

/-- `Pushed` is a completed `Push16`. -/
theorem pushed_iff {w : Word} {s t : State} : Pushed w s t ↔ push16 w s = .ok t := by
  constructor
  · rintro ⟨s1, s2, h1, h2, rfl⟩
    have k := ((memWrite_kept h1).trans (memWrite_kept h2)).cpu
    rw [push16_of_writes h1 h2, ← k]
    rfl
  · intro h
    obtain ⟨s1, s2, h1, h2, k, rfl⟩ := push16_ok h
    exact ⟨s1, s2, h1, h2, by rw [← k.cpu]; rfl⟩

end Sys2Proof.Machine
end

