-- ==== Sys2Proof/Laws/Scanline.lean ====
section
/-! SUPPORT. The scanline state machine and the rows it renders. -/

namespace Sys2Proof.Machine

/-! ## The state machine -/

/-- A mode's entry writes the pixel unit as `setMode` does. -/
theorem enterMode_ppu (m : Mode) (s : State) : (enterMode m s).ppu = (setMode m s).ppu := by
  rcases enterMode_cases m s with e | e <;> rw [e] <;> rfl

theorem ppuExecute_within {s : State} {n : Nat} (h : s.ppu.acc + n < modeCycles s.ppu.mode) : ppuExecute n s = setAcc (s.ppu.acc + n) s :=
  if_neg (by omega)

theorem ppuExecute_beyond {s : State} {n : Nat} (h : modeCycles s.ppu.mode ≤ s.ppu.acc + n) :
    ppuExecute n s = endMode (setAcc (s.ppu.acc + n - modeCycles s.ppu.mode) s) := if_pos h

/-! ## Rows -/

theorem foldl_length {α β : Type} (g : List α → β → List α) (hg : ∀ r x, (g r x).length = r.length) (l : List β) (r : List α) :
    (l.foldl g r).length = r.length := by
  induction l generalizing r with
  | nil => rfl
  | cons a l ih => rw [List.foldl_cons, ih, hg]

theorem spritePixel_length (p : PixelUnit) (attr lo hi : Byte) (x0 : Int) (row : List Shade) (px : Nat) :
    (spritePixel p attr lo hi x0 row px).length = row.length := by
  simp only [spritePixel]
  generalize colourIndex lo hi _ = c
  by_cases h : c ≠ 0 ∧ 0 ≤ x0 + px ∧ x0 + px < 160
  · rw [if_pos h, List.length_set]
  · rw [if_neg h]

theorem spriteOnRow_length (s : State) (line : Nat) (row : List Shade) (i : Nat) : (spriteOnRow s line row i).length = row.length := by
  simp only [spriteOnRow]
  split
  · exact foldl_length _ (fun r x => spritePixel_length _ _ _ _ _ r x) _ _
  · rfl

theorem spritesOnRow_length (s : State) (line : Nat) (row : List Shade) : (spritesOnRow s line row).length = row.length := by
  unfold spritesOnRow
  split
  · exact foldl_length _ (fun r i => spriteOnRow_length s line r i) _ _
  · rfl

theorem backgroundRow_length (s : State) (line : Nat) : (backgroundRow s line).length = 160 := by
  unfold backgroundRow
  split
  · rw [List.length_map, List.length_range]
  · rw [List.length_replicate]

/-- The row a rendered line leaves in the frame buffer. -/
theorem renderScanline_row (s : State) (line : Nat) (hl : line < 144) (hb : line < s.ppu.fb.length) :
    (renderScanline line s).ppu.fb.getD line [] = spritesOnRow s line (backgroundRow s line) := by
  simp only [renderScanline, if_pos hl, List.getD_eq_getElem?_getD]
  rw [List.getElem?_set_self hb]
  rfl

/-- A bus read of video RAM is a read of `M`. -/
theorem memRead_vram (n : Nat) (s : State) (h : 0x8000 ≤ n ∧ n < 0xA000) : memRead (BitVec.ofNat 16 n) s = .ok (s.mem.read n) := by
  have e : (BitVec.ofNat 16 n).toNat = n := by
    rw [BitVec.toNat_ofNat]
    omega
  rw [memRead_plain _ _ (by rw [e, isPlain_iff]; omega), e]

theorem paletteShade_toNat (p : Byte) (c : Nat) : (paletteShade p c).toNat = p.toNat / 4 ^ c % 4 := by
  have four : (2 ^ 2 : Nat) = 4 := rfl
  simp only [paletteShade, field, BitVec.toNat_ofNat, Nat.pow_mul, four, Nat.mod_mod]

end Sys2Proof.Machine
end

