-- ==== Sys2Proof/Laws/Step.lean ====
section
/-! SUPPORT. What a machine step can do, once: the host's acts, the latch, the fetch, `exec`, the devices. -/

namespace Sys2Proof.Machine

/-! ## Before the fetch -/

/-- What the host's acts and the latch leave: all but the buttons, `IF`, the schedule, `IME` and its latch. -/
structure EntryKept (s t : State) : Prop where
  cpu : { t.cpu with imePending := s.cpu.imePending } = s.cpu
  mem : t.mem = s.mem
  cart : t.cart = s.cart
  timer : t.timer = s.timer
  ppu : t.ppu = s.ppu
  params : t.params = s.params
  ie : t.ints.ie = s.ints.ie
  cycles : t.cycles = s.cycles
  handedFrame : t.handedFrame = s.handedFrame

theorem hostActs_fold (acts : List HostAct) (s : State) : ∃ b m, (m = 0 ∨ m = 0x10) ∧
    acts.foldl hostAct s = { s with joypad := { s.joypad with buttons := b }, ints := { s.ints with iflag := s.ints.iflag ||| m } } := by
  induction acts generalizing s with
  | nil => exact ⟨s.joypad.buttons, 0, .inl rfl, by simp⟩
  | cons act rest ih =>
    obtain ⟨b, m, hm, e⟩ := ih (hostAct s act)
    rw [List.foldl_cons, e]
    cases act with
    | setButtons b' => exact ⟨b, m, hm, rfl⟩
    | joypadInterrupt =>
      refine ⟨b, 0x10, .inr rfl, ?_⟩
      have hor : s.ints.iflag ||| BitVec.ofNat 8 (2 ^ 4) ||| m = s.ints.iflag ||| 0x10 := by
        rw [BitVec.or_assoc]
        congr 1
        rcases hm with rfl | rfl <;> decide
      simp [hostAct, requestInterrupt] at hor ⊢
      exact hor

/-- The host's acts change the buttons, set `IF` bit 4 perhaps, and use up one entry of the schedule. -/
theorem hostPhase_eq (s : State) : ∃ b m acts, (m = 0 ∨ m = 0x10) ∧
    hostPhase s = { s with joypad := { s.joypad with buttons := b }, ints := { s.ints with iflag := s.ints.iflag ||| m }, hostActs := acts } := by
  unfold hostPhase
  split
  · exact ⟨s.joypad.buttons, 0, s.hostActs, .inl rfl, by simp⟩
  · next acts rest _ =>
    obtain ⟨b, m, hm, e⟩ := hostActs_fold acts { s with hostActs := rest }
    exact ⟨b, m, rest, hm, e⟩

theorem latchIme_eq (s : State) : ∃ ime, latchIme s = { s with ints := { s.ints with ime := ime }, cpu := { s.cpu with imePending := .none } } := by
  unfold latchIme
  split
  · next h =>
    refine ⟨s.ints.ime, ?_⟩
    rw [← h]
  · exact ⟨true, rfl⟩
  · exact ⟨false, rfl⟩

theorem entry_kept (s : State) : EntryKept s (latchIme (hostPhase s)) ∧ (latchIme (hostPhase s)).cpu.imePending = .none := by
  obtain ⟨b, m, acts, -, e⟩ := hostPhase_eq s
  obtain ⟨ime, e'⟩ := latchIme_eq (hostPhase s)
  rw [e', e]
  exact ⟨⟨rfl, rfl, rfl, rfl, rfl, rfl, rfl, rfl, rfl⟩, rfl⟩

/-! ## The fetch -/

/-- A completed fetch: the bytes at `PC`, as many as the first calls for, and `PC` past them. -/
theorem fetch_ok {s t : State} {i : Instr} (h : fetch s = .ok (i, t)) :
    ∃ op b1 b2, memRead s.cpu.pc s = .ok op ∧ i = decodeInstr s.params.prefixByte op b1 b2 ∧
      t = setPc (s.cpu.pc + BitVec.ofNat 16 (lengthOf s.params.prefixByte op)) s ∧
      (2 ≤ lengthOf s.params.prefixByte op → memRead (s.cpu.pc + 1) s = .ok b1) ∧
      (3 ≤ lengthOf s.params.prefixByte op → memRead (s.cpu.pc + 2) s = .ok b2) := by
  simp only [fetch, bind, Except.bind] at h
  split at h
  · cases h
  · next op hop =>
    split at h
    · cases h
    · next b1 h1 =>
      split at h
      · cases h
      · next b2 h2 =>
        cases h
        refine ⟨op, b1, b2, hop, rfl, rfl, fun hl => ?_, fun hl => ?_⟩
        · simpa [operandByte, hl] using h1
        · simpa [operandByte, hl] using h2

/-- The fetch completes where its bytes can be read. -/
theorem fetch_of_reads {s : State} {op b1 b2 : Byte} (hop : memRead s.cpu.pc s = .ok op)
    (h1 : operandByte (decide (2 ≤ lengthOf s.params.prefixByte op)) (s.cpu.pc + 1) s = .ok b1)
    (h2 : operandByte (decide (3 ≤ lengthOf s.params.prefixByte op)) (s.cpu.pc + 2) s = .ok b2) :
    fetch s = .ok (decodeInstr s.params.prefixByte op b1 b2, setPc (s.cpu.pc + BitVec.ofNat 16 (lengthOf s.params.prefixByte op)) s) := by
  simp only [fetch, bind, Except.bind, hop, h1, h2]

/-! ## The step -/

theorem step_idle (s : State) (h : isIdle (latchIme (hostPhase s)) = true) : step s = devicesOut (idle (latchIme (hostPhase s))) := by
  simp only [step, h, if_true]

theorem step_fetched {s t : State} {i : Instr} (h : isIdle (latchIme (hostPhase s)) = false) (hf : fetch (latchIme (hostPhase s)) = .ok (i, t)) :
    step s = afterExec (exec i t) := by
  simp only [step, h, hf]
  rfl

theorem devicesOut_next {s t : State} (h : devicesOut s = .next t) : devices s = .ok t := by
  unfold devicesOut at h
  split at h
  · next e => rw [e, Host.Outcome.next.inj h]
  · cases h

/-- A completed step: idle or one whole instruction, then the devices. -/
theorem step_next {s t : State} (h : step s = .next t) :
    (isIdle (latchIme (hostPhase s)) = true ∧ devices (idle (latchIme (hostPhase s))) = .ok t) ∨
    (isIdle (latchIme (hostPhase s)) = false ∧ ∃ i s2 u, fetch (latchIme (hostPhase s)) = .ok (i, s2) ∧ exec i s2 = .next u ∧ devices u = .ok t) := by
  by_cases hi : isIdle (latchIme (hostPhase s)) = true
  · rw [step_idle s hi] at h
    exact .inl ⟨hi, devicesOut_next h⟩
  · have hi' : isIdle (latchIme (hostPhase s)) = false := by simpa using hi
    cases hf : fetch (latchIme (hostPhase s)) with
    | error f =>
      simp only [step, hi', hf] at h
      cases h
    | ok p =>
      rw [step_fetched hi' hf] at h
      cases he : exec p.1 p.2 with
      | next u =>
        rw [he] at h
        exact .inr ⟨hi', p.1, p.2, u, rfl, he, devicesOut_next h⟩
      | fault f =>
        rw [he] at h
        cases h
      | refused r =>
        rw [he] at h
        cases h

/-- After `execute()`: timer and pixel unit, which keep the CPU and memory, then the interrupt controller. -/
theorem devices_ok {s t : State} (h : devices s = .ok t) :
    ∃ u, DevicesKept s u ∧ u = ppuExecute s.cycles (timerUpdate s.cycles s) ∧ resolve u = .ok t :=
  ⟨_, (timerUpdate_kept s.cycles s).1.trans (ppuExecute_kept s.cycles _).1, rfl, h⟩

end Sys2Proof.Machine
end

