-- ==== Sys2Proof/Tests/Slice0.lean ====
section
/-! SUPPORT. Tests: WellFormed, decoding, one step for each family, and a witness for the hypotheses of each statement. Expected values are
those of 95_test_vectors.md (V<n>, W<n>) or of the rules cited, worked out by hand. -/

namespace Sys2Proof.Tests

open Sys2Proof.Machine

/-! ## WellFormed -/

/-- The prefix row's words decode to the extended rows (46_system.md R285), so the row itself is refused. -/
theorem test_wellformed_refuses_prefix_row : WellFormed (.prefix_cb 0x37) = false := rfl

theorem test_wellformed_accepts_extended_row : WellFormed .swap_a = true := rfl

/-- With another `PREFIX` (00_scope.md R7) the byte 0xCB is its base-table entry and the extended table stands behind the other byte; the base
instruction at that byte has no encoding. -/
theorem test_other_prefix :
    decode 0xED [0xED, 0x37] = .ok (.swap_a, []) ∧ decode 0xED [0xCB, 0x37] = .ok (.prefix_cb 0x37, []) ∧ encodable 0x00 .nop = false := ⟨rfl, rfl, rfl⟩

/-! ## Decoding: words written out from 30_encoding.md R108, R110 -/

/-- `LD A,B`: `01 ddd sss`, d = 7, s = 0. -/
theorem test_decode_load8 : decode 0xCB [0b01111000] = .ok (.ld_a_b, []) := rfl

/-- `LD (nn),SP`: `00 001 000`, low byte first. -/
theorem test_decode_load16 : decode 0xCB [0b00001000, 0x34, 0x12] = .ok (.ld_atNn_sp 0x1234, []) := rfl

/-- `SBC A,(HL)`: `10 aaa zzz`, a = 3, z = 6. -/
theorem test_decode_alu8 : decode 0xCB [0b10011110] = .ok (.sbc_a_atHL, []) := rfl

/-- `ADD HL,DE`: `00 pp1 001`, p = 1. -/
theorem test_decode_alu16 : decode 0xCB [0b00011001] = .ok (.add_hl_de, []) := rfl

/-- `BIT 5,(HL)`: `01 bbb zzz` behind the prefix, b = 5, z = 6. -/
theorem test_decode_bit : decode 0xCB [0b11001011, 0b01101110] = .ok (.bit_5_atHL, []) := rfl

/-- `SRL B`: `00 ooo zzz` behind the prefix, o = 7, z = 0; a byte follows. -/
theorem test_decode_shift : decode 0xCB [0b11001011, 0b00111000, 0x99] = .ok (.srl_b, [0x99]) := rfl

/-- `CALL NC,nn`: `11 0cc 100`, cc = 2. -/
theorem test_decode_control : decode 0xCB [0b11010100, 0x00, 0x80] = .ok (.call_nc_nn 0x8000, []) := rfl

/-- `DI`, 0xF3. -/
theorem test_decode_system : decode 0xCB [0b11110011] = .ok (.di, []) := rfl

/-- 0xDD has no instruction (R118). -/
theorem test_decode_undefined : decode 0xCB [0b11011101] = .ok (.undefined_dd, []) := rfl

theorem test_decode_no_byte : decode 0xCB [] = .error .noByte := rfl

theorem test_decode_truncated : decode 0xCB [0x21, 0x00] = .error (.truncated 0x21) := rfl

/-- The table's words: `LD DE,nn` with zero operand bits, and an extended row's `byte0 * 256 + byte1`. -/
theorem test_decodeTableWord : decodeTableWord 8 0x11 = some (.ld_de_nn 0) ∧ decodeTableWord 16 0xCB37 = some .swap_a := ⟨rfl, rfl⟩

theorem test_withFetchWord_runs_first : (match step (State.reset.withFetchWord 16 0xCB37) with | .next t => t.cpu.a.toNat | _ => 0) = 0x10 := rfl

/-! ## One step -/

/-- The step that runs the bytes at 0x0100, if it completes, seen through `f`. -/
def after (bytes : List Byte) (s : State) (f : State → List Nat) : Option (List Nat) :=
  match step (placeBytes bytes 0x0100 s) with
  | .next t => some (f t)
  | .fault _ => none
  | .refused _ => none

/-- A byte of memory. -/
def cellOf (a : Word) (s : State) : Nat :=
  match memRead a s with
  | .ok v => v.toNat
  | .error _ => 256

/-- A byte stored through the bus. -/
def store (a : Word) (v : Byte) (s : State) : State :=
  match memWrite a v s with
  | .ok t => t
  | .error _ => s

/-- An address within a range. -/
abbrev inRange (a : Word) (first last : Nat) : Prop := first ≤ a.toNat ∧ a.toNat ≤ last

/-- The latch as a number. -/
def latchCode (s : State) : Nat :=
  match s.cpu.imePending with
  | .none => 0
  | .enable => 1
  | .disable => 2

/-- 95_test_vectors.md V1. -/
theorem test_ld_r_r :
    after [0x41] State.reset
      (fun t => [t.cpu.b.toNat, t.cpu.c.toNat, t.cpu.f.toNat, t.cycles]) = some [0x13, 0x13, 0xB0, 4] := by
  rfl

/-- 95_test_vectors.md V2. -/
theorem test_ld_r_n :
    after [0x3E, 0x05] State.reset
      (fun t => [t.cpu.a.toNat, t.cpu.f.toNat, t.cpu.pc.toNat, t.cycles]) = some [0x05, 0xB0, 0x0102, 8] := by
  rfl

/-- 95_test_vectors.md V4. -/
theorem test_ld_h_atHL :
    after [0x66] (store 0xC000 0xD0 { State.reset with cpu := { State.reset.cpu with h := 0xC0, l := 0x00 } })
      (fun t => [t.cpu.h.toNat, t.cpu.l.toNat, t.cycles]) = some [0xD0, 0x00, 8] := by
  rfl

/-- 95_test_vectors.md V5. -/
theorem test_ld_atHL_b_echo :
    after [0x70] { State.reset with cpu := { State.reset.cpu with h := 0xC0, l := 0x10, b := 0x77 } }
      (fun t => [cellOf 0xC010 t, cellOf 0xE010 t, t.cycles]) = some [0x77, 0x77, 8] := by
  rfl

/-- 95_test_vectors.md V7. -/
theorem test_ld_atHL_n :
    after [0x36, 0xA5] { State.reset with cpu := { State.reset.cpu with h := 0xFF, l := 0x80 } }
      (fun t => [cellOf 0xFF80 t, t.cpu.pc.toNat, t.cycles]) = some [0xA5, 0x0102, 12] := by
  rfl

/-- 95_test_vectors.md V8. -/
theorem test_ld_a_atBC :
    after [0x0A] (store 0xC123 0x9C { State.reset with cpu := { State.reset.cpu with b := 0xC1, c := 0x23 } })
      (fun t => [t.cpu.a.toNat, t.cycles]) = some [0x9C, 8] := by
  rfl

/-- 95_test_vectors.md V11. -/
theorem test_ld_atDE_a_rom_unchanged :
    after [0x12] { State.reset with cpu := { State.reset.cpu with d := 0x20, e := 0x00, a := 0x05 } }
      (fun t => [cellOf 0x2000 t, t.cycles]) = some [0x00, 8] := by
  rfl

/-- 95_test_vectors.md V12. -/
theorem test_ld_a_atNn :
    after [0xFA, 0x00, 0xC1] (store 0xC100 0x42 State.reset)
      (fun t => [t.cpu.a.toNat, t.cpu.pc.toNat, t.cycles]) = some [0x42, 0x0103, 16] := by
  rfl

/-- 95_test_vectors.md V13. -/
theorem test_ld_atNn_a_echo :
    after [0xEA, 0x34, 0xC2] { State.reset with cpu := { State.reset.cpu with a := 0x99 } }
      (fun t => [cellOf 0xC234 t, cellOf 0xE234 t, t.cpu.pc.toNat, t.cycles]) = some [0x99, 0x99, 0x0103, 16] := by
  rfl

/-- 95_test_vectors.md V14. -/
theorem test_ldh_atC_a :
    after [0xE2] { State.reset with cpu := { State.reset.cpu with a := 0x77, c := 0x80 } }
      (fun t => [cellOf 0xFF80 t, t.cycles]) = some [0x77, 8] := by
  rfl

/-- 95_test_vectors.md V15. -/
theorem test_ldh_a_atC_reads_ly :
    after [0xF2] { State.reset with cpu := { State.reset.cpu with c := 0x44 } }
      (fun t => [t.cpu.a.toNat, t.cycles]) = some [0x00, 8] := by
  rfl

/-- 95_test_vectors.md V16. -/
theorem test_ldh_atN_a_writes_if :
    after [0xE0, 0x0F] { State.reset with cpu := { State.reset.cpu with a := 0xE5 } }
      (fun t => [t.ints.iflag.toNat, t.cpu.pc.toNat, t.cycles]) = some [0xE5, 0x0102, 12] := by
  rfl

/-- 95_test_vectors.md V17. -/
theorem test_ldh_a_atN_reads_stat :
    after [0xF0, 0x41] State.reset
      (fun t => [t.cpu.a.toNat, t.cycles]) = some [0x02, 12] := by
  rfl

/-- 95_test_vectors.md V18. -/
theorem test_ld_atHLinc_a_writes_ie :
    after [0x22] { State.reset with cpu := { State.reset.cpu with h := 0xFF, l := 0xFF, a := 0x1F } }
      (fun t => [t.ints.ie.toNat, (getPair .hl t).toNat, t.cycles]) = some [0x1F, 0x0000, 8] := by
  rfl

/-- 95_test_vectors.md V19. -/
theorem test_ld_a_atHLdec_wraps :
    after [0x3A] { State.reset with cpu := { State.reset.cpu with h := 0x00, l := 0x00 } }
      (fun t => [t.cpu.a.toNat, (getPair .hl t).toNat, t.cycles]) = some [0x00, 0xFFFF, 8] := by
  rfl

/-- 95_test_vectors.md V20. -/
theorem test_ld_a_atHLinc :
    after [0x2A] (store 0xC0FF 0x11 { State.reset with cpu := { State.reset.cpu with h := 0xC0, l := 0xFF } })
      (fun t => [t.cpu.a.toNat, (getPair .hl t).toNat, t.cycles]) = some [0x11, 0xC100, 8] := by
  rfl

/-- 95_test_vectors.md V21. -/
theorem test_ld_atHLdec_a :
    after [0x32] { State.reset with cpu := { State.reset.cpu with h := 0xC1, l := 0x00, a := 0xAB } }
      (fun t => [cellOf 0xC100 t, (getPair .hl t).toNat, t.cycles]) = some [0xAB, 0xC0FF, 8] := by
  rfl

/-- 95_test_vectors.md V23. -/
theorem test_ld_atNn_a_clears_ly :
    after [0xEA, 0x44, 0xFF] { State.reset with cpu := { State.reset.cpu with a := 0x55 }, ppu := { State.reset.ppu with ly := 0x30 } }
      (fun t => [cellOf 0xFF44 t, t.cycles]) = some [0x00, 16] := by
  rfl

/-- 95_test_vectors.md V30. -/
theorem test_ld_bc_nn :
    after [0x01, 0x34, 0x12] State.reset
      (fun t => [(getPair .bc t).toNat, t.cpu.pc.toNat, t.cycles]) = some [0x1234, 0x0103, 12] := by
  rfl

/-- 95_test_vectors.md V32. -/
theorem test_ld_atNn_sp :
    after [0x08, 0x00, 0xC1] { State.reset with cpu := { State.reset.cpu with sp := 0xFFF8 } }
      (fun t => [cellOf 0xC100 t, cellOf 0xC101 t, t.cpu.pc.toNat, t.cycles]) = some [0xF8, 0xFF, 0x0103, 20] := by
  rfl

/-- 95_test_vectors.md V33. -/
theorem test_ld_sp_hl :
    after [0xF9] { State.reset with cpu := { State.reset.cpu with h := 0xD1, l := 0x23 } }
      (fun t => [t.cpu.sp.toNat, t.cpu.f.toNat, t.cycles]) = some [0xD123, 0xB0, 8] := by
  rfl

/-- 95_test_vectors.md V36. -/
theorem test_ld_hl_sp_e :
    after [0xF8, 0xFE] { State.reset with cpu := { State.reset.cpu with sp := 0x0002 } }
      (fun t => [(getPair .hl t).toNat, t.cpu.f.toNat, t.cycles]) = some [0x0000, 0x30, 12] := by
  rfl

/-- 95_test_vectors.md V37. -/
theorem test_ld_hl_sp_e_half :
    after [0xF8, 0x08] { State.reset with cpu := { State.reset.cpu with sp := 0x0FF8 } }
      (fun t => [(getPair .hl t).toNat, t.cpu.f.toNat, t.cycles]) = some [0x1000, 0x20, 12] := by
  rfl

/-- 95_test_vectors.md V38. -/
theorem test_push_bc :
    after [0xC5] { State.reset with cpu := { State.reset.cpu with b := 0x12, c := 0x34, sp := 0xD000 } }
      (fun t => [cellOf 0xCFFF t, cellOf 0xCFFE t, t.cpu.sp.toNat, t.cycles]) = some [0x12, 0x34, 0xCFFE, 16] := by
  rfl

/-- 95_test_vectors.md V39. -/
theorem test_push_af :
    after [0xF5] { State.reset with cpu := { State.reset.cpu with a := 0x12, f := 0xF0, sp := 0xD000 } }
      (fun t => [cellOf 0xCFFF t, cellOf 0xCFFE t, t.cpu.sp.toNat, t.cycles]) = some [0x12, 0xF0, 0xCFFE, 16] := by
  rfl

/-- 95_test_vectors.md V40. -/
theorem test_pop_af_masks :
    after [0xF1] (store 0xC001 0x12 (store 0xC000 0xFF { State.reset with cpu := { State.reset.cpu with sp := 0xC000 } }))
      (fun t => [t.cpu.a.toNat, t.cpu.f.toNat, t.cpu.sp.toNat, t.cycles]) = some [0x12, 0xF0, 0xC002, 12] := by
  rfl

/-- 95_test_vectors.md V41. -/
theorem test_pop_de :
    after [0xD1] (store 0xC001 0xAB (store 0xC000 0xCD { State.reset with cpu := { State.reset.cpu with sp := 0xC000 } }))
      (fun t => [(getPair .de t).toNat, t.cpu.sp.toNat, t.cycles]) = some [0xABCD, 0xC002, 12] := by
  rfl

/-- 95_test_vectors.md V42. -/
theorem test_push_hl_wraps :
    after [0xE5] { State.reset with cpu := { State.reset.cpu with h := 0xA5, l := 0x5A, sp := 0x0001 } }
      (fun t => [t.ints.ie.toNat, t.cpu.sp.toNat, t.cycles]) = some [0x5A, 0xFFFF, 16] := by
  rfl

/-- 95_test_vectors.md V51. -/
theorem test_add_wraps :
    after [0xC6, 0x01] { State.reset with cpu := { State.reset.cpu with a := 0xFF, f := 0x00 } }
      (fun t => [t.cpu.a.toNat, t.cpu.f.toNat, t.cycles]) = some [0x00, 0xB0, 8] := by
  rfl

/-- 95_test_vectors.md V50. -/
theorem test_add_half :
    after [0xC6, 0x01] { State.reset with cpu := { State.reset.cpu with a := 0x0F, f := 0x00 } }
      (fun t => [t.cpu.a.toNat, t.cpu.f.toNat, t.cycles]) = some [0x10, 0x20, 8] := by
  rfl

/-- 95_test_vectors.md V55. -/
theorem test_adc_carry_in :
    after [0xCE, 0x00] { State.reset with cpu := { State.reset.cpu with a := 0x0F, f := 0x10 } }
      (fun t => [t.cpu.a.toNat, t.cpu.f.toNat, t.cycles]) = some [0x10, 0x20, 8] := by
  rfl

/-- 95_test_vectors.md V59. -/
theorem test_sbc_borrow_in :
    after [0xDE, 0xFF] { State.reset with cpu := { State.reset.cpu with a := 0x00, f := 0x10 } }
      (fun t => [t.cpu.a.toNat, t.cpu.f.toNat, t.cycles]) = some [0x00, 0xF0, 8] := by
  rfl

/-- 95_test_vectors.md V61. -/
theorem test_sbc_a_a :
    after [0x9F] { State.reset with cpu := { State.reset.cpu with a := 0x42, f := 0x10 } }
      (fun t => [t.cpu.a.toNat, t.cpu.f.toNat, t.cycles]) = some [0xFF, 0x70, 4] := by
  rfl

/-- 95_test_vectors.md V63. -/
theorem test_add_atHL :
    after [0x86] (store 0xC000 0x12 { State.reset with cpu := { State.reset.cpu with a := 0x3C, h := 0xC0, l := 0x00, f := 0x00 } })
      (fun t => [t.cpu.a.toNat, t.cpu.f.toNat, t.cycles]) = some [0x4E, 0x00, 8] := by
  rfl

/-- 95_test_vectors.md V53. -/
theorem test_sub_borrow :
    after [0xD6, 0x01] { State.reset with cpu := { State.reset.cpu with a := 0x00, f := 0x00 } }
      (fun t => [t.cpu.a.toNat, t.cpu.f.toNat, t.cycles]) = some [0xFF, 0x70, 8] := by
  rfl

/-- 95_test_vectors.md V65. -/
theorem test_and :
    after [0xE6, 0x3F] { State.reset with cpu := { State.reset.cpu with a := 0x5A, f := 0x00 } }
      (fun t => [t.cpu.a.toNat, t.cpu.f.toNat, t.cycles]) = some [0x1A, 0x20, 8] := by
  rfl

/-- 95_test_vectors.md V67. -/
theorem test_xor_a :
    after [0xAF] { State.reset with cpu := { State.reset.cpu with a := 0x5A, f := 0xF0 } }
      (fun t => [t.cpu.a.toNat, t.cpu.f.toNat, t.cycles]) = some [0x00, 0x80, 4] := by
  rfl

/-- 95_test_vectors.md V69. -/
theorem test_or :
    after [0xF6, 0x0F] { State.reset with cpu := { State.reset.cpu with a := 0x5A, f := 0xF0 } }
      (fun t => [t.cpu.a.toNat, t.cpu.f.toNat, t.cycles]) = some [0x5F, 0x00, 8] := by
  rfl

/-- 95_test_vectors.md V71. -/
theorem test_cp :
    after [0xFE, 0x40] { State.reset with cpu := { State.reset.cpu with a := 0x3C, f := 0x00 } }
      (fun t => [t.cpu.a.toNat, t.cpu.f.toNat, t.cycles]) = some [0x3C, 0x50, 8] := by
  rfl

/-- 95_test_vectors.md V74. -/
theorem test_inc_a_keeps_carry :
    after [0x3C] { State.reset with cpu := { State.reset.cpu with a := 0xFF, f := 0x10 } }
      (fun t => [t.cpu.a.toNat, t.cpu.f.toNat, t.cycles]) = some [0x00, 0xB0, 4] := by
  rfl

/-- 95_test_vectors.md V76. -/
theorem test_inc_atHL :
    after [0x34] (store 0xC000 0x4F { State.reset with cpu := { State.reset.cpu with h := 0xC0, l := 0x00, f := 0x00 } })
      (fun t => [cellOf 0xC000 t, t.cpu.f.toNat, t.cycles]) = some [0x50, 0x20, 12] := by
  rfl

/-- 95_test_vectors.md V77. -/
theorem test_dec_b :
    after [0x05] { State.reset with cpu := { State.reset.cpu with b := 0x01, f := 0x10 } }
      (fun t => [t.cpu.b.toNat, t.cpu.f.toNat, t.cycles]) = some [0x00, 0xD0, 4] := by
  rfl

/-- 95_test_vectors.md V79. -/
theorem test_dec_atHL :
    after [0x35] (store 0xC000 0x10 { State.reset with cpu := { State.reset.cpu with h := 0xC0, l := 0x00, f := 0x00 } })
      (fun t => [cellOf 0xC000 t, t.cpu.f.toNat, t.cycles]) = some [0x0F, 0x60, 12] := by
  rfl

/-- 95_test_vectors.md V81. -/
theorem test_daa_add :
    after [0x27] { State.reset with cpu := { State.reset.cpu with a := 0x7D, f := 0x00 } }
      (fun t => [t.cpu.a.toNat, t.cpu.f.toNat, t.cycles]) = some [0x83, 0x00, 4] := by
  rfl

/-- 95_test_vectors.md V84. -/
theorem test_daa_sub :
    after [0x27] { State.reset with cpu := { State.reset.cpu with a := 0x4B, f := 0x60 } }
      (fun t => [t.cpu.a.toNat, t.cpu.f.toNat, t.cycles]) = some [0x45, 0x40, 4] := by
  rfl

/-- 95_test_vectors.md V88. -/
theorem test_cpl_keeps_z :
    after [0x2F] { State.reset with cpu := { State.reset.cpu with a := 0xFF, f := 0x00 } }
      (fun t => [t.cpu.a.toNat, t.cpu.f.toNat, t.cycles]) = some [0x00, 0x60, 4] := by
  rfl

/-- 95_test_vectors.md V89. -/
theorem test_scf :
    after [0x37] { State.reset with cpu := { State.reset.cpu with f := 0xE0 } }
      (fun t => [t.cpu.f.toNat, t.cycles]) = some [0x90, 4] := by
  rfl

/-- 95_test_vectors.md V90. -/
theorem test_ccf :
    after [0x3F] { State.reset with cpu := { State.reset.cpu with f := 0xF0 } }
      (fun t => [t.cpu.f.toNat, t.cycles]) = some [0x80, 4] := by
  rfl

/-- 95_test_vectors.md V100. -/
theorem test_add_hl_bc :
    after [0x09] { State.reset with cpu := { State.reset.cpu with h := 0x8A, l := 0x23, b := 0x06, c := 0x05, f := 0x80 } }
      (fun t => [(getPair .hl t).toNat, t.cpu.f.toNat, t.cycles]) = some [0x9028, 0xA0, 8] := by
  rfl

/-- 95_test_vectors.md V104. -/
theorem test_add_hl_sp :
    after [0x39] { State.reset with cpu := { State.reset.cpu with h := 0x00, l := 0x01, sp := 0xFFFE, f := 0x40 } }
      (fun t => [(getPair .hl t).toNat, t.cpu.f.toNat, t.cycles]) = some [0xFFFF, 0x00, 8] := by
  rfl

/-- 95_test_vectors.md V105. -/
theorem test_inc_de_wraps :
    after [0x13] { State.reset with cpu := { State.reset.cpu with d := 0xFF, e := 0xFF, f := 0x00 } }
      (fun t => [(getPair .de t).toNat, t.cpu.f.toNat, t.cycles]) = some [0x0000, 0x00, 8] := by
  rfl

/-- 95_test_vectors.md V107. -/
theorem test_dec_bc_wraps :
    after [0x0B] { State.reset with cpu := { State.reset.cpu with b := 0x00, c := 0x00, f := 0xF0 } }
      (fun t => [(getPair .bc t).toNat, t.cpu.f.toNat, t.cycles]) = some [0xFFFF, 0xF0, 8] := by
  rfl

/-- 95_test_vectors.md V113. -/
theorem test_add_sp_e_bit7 :
    after [0xE8, 0x01] { State.reset with cpu := { State.reset.cpu with sp := 0x00FF, f := 0x00 } }
      (fun t => [t.cpu.sp.toNat, t.cpu.f.toNat, t.cycles]) = some [0x0100, 0x00, 16] := by
  rfl

/-- 95_test_vectors.md V114. -/
theorem test_add_sp_e_negative :
    after [0xE8, 0x80] { State.reset with cpu := { State.reset.cpu with sp := 0x1000, f := 0x00 } }
      (fun t => [t.cpu.sp.toNat, t.cpu.f.toNat, t.cycles]) = some [0x0F80, 0x10, 16] := by
  rfl

/-- 95_test_vectors.md V121. -/
theorem test_rlca_z_zero :
    after [0x07] { State.reset with cpu := { State.reset.cpu with a := 0x00, f := 0xF0 } }
      (fun t => [t.cpu.a.toNat, t.cpu.f.toNat, t.cycles]) = some [0x00, 0x00, 4] := by
  rfl

/-- 95_test_vectors.md V122. -/
theorem test_rrca :
    after [0x0F] { State.reset with cpu := { State.reset.cpu with a := 0x3B, f := 0x00 } }
      (fun t => [t.cpu.a.toNat, t.cpu.f.toNat, t.cycles]) = some [0x9D, 0x10, 4] := by
  rfl

/-- 95_test_vectors.md V123. -/
theorem test_rla :
    after [0x17] { State.reset with cpu := { State.reset.cpu with a := 0x95, f := 0x10 } }
      (fun t => [t.cpu.a.toNat, t.cpu.f.toNat, t.cycles]) = some [0x2B, 0x10, 4] := by
  rfl

/-- 95_test_vectors.md V126. -/
theorem test_rra :
    after [0x1F] { State.reset with cpu := { State.reset.cpu with a := 0x00, f := 0x10 } }
      (fun t => [t.cpu.a.toNat, t.cpu.f.toNat, t.cycles]) = some [0x80, 0x00, 4] := by
  rfl

/-- 95_test_vectors.md V128. -/
theorem test_rlc_a_z :
    after [0xCB, 0x07] { State.reset with cpu := { State.reset.cpu with a := 0x00, f := 0x00 } }
      (fun t => [t.cpu.a.toNat, t.cpu.f.toNat, t.cycles]) = some [0x00, 0x80, 8] := by
  rfl

/-- 95_test_vectors.md V129. -/
theorem test_rrc_c :
    after [0xCB, 0x09] { State.reset with cpu := { State.reset.cpu with c := 0x01, f := 0x00 } }
      (fun t => [t.cpu.c.toNat, t.cpu.f.toNat, t.cycles]) = some [0x80, 0x10, 8] := by
  rfl

/-- 95_test_vectors.md V130. -/
theorem test_rl_l :
    after [0xCB, 0x15] { State.reset with cpu := { State.reset.cpu with l := 0x80, f := 0x00 } }
      (fun t => [t.cpu.l.toNat, t.cpu.f.toNat, t.cycles]) = some [0x00, 0x90, 8] := by
  rfl

/-- 95_test_vectors.md V132. -/
theorem test_rr_d :
    after [0xCB, 0x1A] { State.reset with cpu := { State.reset.cpu with d := 0x00, f := 0x10 } }
      (fun t => [t.cpu.d.toNat, t.cpu.f.toNat, t.cycles]) = some [0x80, 0x00, 8] := by
  rfl

/-- 95_test_vectors.md V133. -/
theorem test_sla_d :
    after [0xCB, 0x22] { State.reset with cpu := { State.reset.cpu with d := 0xFF, f := 0x00 } }
      (fun t => [t.cpu.d.toNat, t.cpu.f.toNat, t.cycles]) = some [0xFE, 0x10, 8] := by
  rfl

/-- 95_test_vectors.md V135. -/
theorem test_sra_a :
    after [0xCB, 0x2F] { State.reset with cpu := { State.reset.cpu with a := 0x8A, f := 0x00 } }
      (fun t => [t.cpu.a.toNat, t.cpu.f.toNat, t.cycles]) = some [0xC5, 0x00, 8] := by
  rfl

/-- 95_test_vectors.md V138. -/
theorem test_swap_atHL :
    after [0xCB, 0x36] (store 0xC000 0x00 { State.reset with cpu := { State.reset.cpu with h := 0xC0, l := 0x00, f := 0x10 } })
      (fun t => [cellOf 0xC000 t, t.cpu.f.toNat, t.cycles]) = some [0x00, 0x80, 16] := by
  rfl

/-- 95_test_vectors.md V140. -/
theorem test_srl_a :
    after [0xCB, 0x3F] { State.reset with cpu := { State.reset.cpu with a := 0x01, f := 0x00 } }
      (fun t => [t.cpu.a.toNat, t.cpu.f.toNat, t.cycles]) = some [0x00, 0x90, 8] := by
  rfl

/-- 95_test_vectors.md V141. -/
theorem test_bit_7_a :
    after [0xCB, 0x7F] { State.reset with cpu := { State.reset.cpu with a := 0x80, f := 0x10 } }
      (fun t => [t.cpu.a.toNat, t.cpu.f.toNat, t.cycles]) = some [0x80, 0x30, 8] := by
  rfl

/-- 95_test_vectors.md V143. -/
theorem test_bit_0_atHL :
    after [0xCB, 0x46] (store 0xC000 0xFE { State.reset with cpu := { State.reset.cpu with h := 0xC0, l := 0x00, f := 0x00 } })
      (fun t => [cellOf 0xC000 t, t.cpu.f.toNat, t.cycles]) = some [0xFE, 0xA0, 12] := by
  rfl

/-- 95_test_vectors.md V145. -/
theorem test_res_7_atHL :
    after [0xCB, 0xBE] (store 0xC000 0xFF { State.reset with cpu := { State.reset.cpu with h := 0xC0, l := 0x00 } })
      (fun t => [cellOf 0xC000 t, cellOf 0xE000 t, t.cycles]) = some [0x7F, 0x7F, 16] := by
  rfl

/-- 95_test_vectors.md V147. -/
theorem test_set_0_b :
    after [0xCB, 0xC0] { State.reset with cpu := { State.reset.cpu with b := 0x00, f := 0x00 } }
      (fun t => [t.cpu.b.toNat, t.cpu.f.toNat, t.cycles]) = some [0x01, 0x00, 8] := by
  rfl

/-- 95_test_vectors.md V150. -/
theorem test_jp_nn :
    after [0xC3, 0x50, 0x01] State.reset
      (fun t => [t.cpu.pc.toNat, t.cycles]) = some [0x0150, 16] := by
  rfl

/-- 95_test_vectors.md V152. -/
theorem test_jp_z_not_taken :
    after [0xCA, 0x00, 0x02] { State.reset with cpu := { State.reset.cpu with f := 0x00 } }
      (fun t => [t.cpu.pc.toNat, t.cycles]) = some [0x0103, 12] := by
  rfl

/-- 95_test_vectors.md V154. -/
theorem test_jp_hl :
    after [0xE9] { State.reset with cpu := { State.reset.cpu with h := 0x40, l := 0x00 } }
      (fun t => [t.cpu.pc.toNat, t.cycles]) = some [0x4000, 4] := by
  rfl

/-- 95_test_vectors.md V156. -/
theorem test_jr_backward :
    after [0x18, 0xFB] State.reset
      (fun t => [t.cpu.pc.toNat, t.cycles]) = some [0x00FD, 12] := by
  rfl

/-- 95_test_vectors.md V158. -/
theorem test_jr_nz_taken :
    after [0x20, 0xFC] { State.reset with cpu := { State.reset.cpu with f := 0x00 } }
      (fun t => [t.cpu.pc.toNat, t.cycles]) = some [0x00FE, 12] := by
  rfl

/-- 95_test_vectors.md V159. -/
theorem test_jr_nz_not_taken :
    after [0x20, 0xFC] { State.reset with cpu := { State.reset.cpu with f := 0x80 } }
      (fun t => [t.cpu.pc.toNat, t.cycles]) = some [0x0102, 8] := by
  rfl

/-- 95_test_vectors.md V161. -/
theorem test_call_nn :
    after [0xCD, 0x00, 0x02] State.reset
      (fun t => [t.cpu.sp.toNat, cellOf 0xFFFD t, cellOf 0xFFFC t, t.cycles]) = some [0xFFFC, 0x01, 0x03, 24] := by
  rfl

/-- 95_test_vectors.md V162. -/
theorem test_call_c_not_taken :
    after [0xDC, 0x00, 0x02] { State.reset with cpu := { State.reset.cpu with f := 0x00 } }
      (fun t => [t.cpu.pc.toNat, t.cpu.sp.toNat, t.cycles]) = some [0x0103, 0xFFFE, 12] := by
  rfl

/-- 95_test_vectors.md V163. -/
theorem test_call_nz_taken :
    after [0xC4, 0x00, 0x02] { State.reset with cpu := { State.reset.cpu with f := 0x00, sp := 0xD000 } }
      (fun t => [t.cpu.sp.toNat, cellOf 0xCFFF t, cellOf 0xCFFE t, t.cycles]) = some [0xCFFE, 0x01, 0x03, 24] := by
  rfl

/-- 95_test_vectors.md V164. -/
theorem test_ret :
    after [0xC9] (store 0xC001 0x01 (store 0xC000 0x53 { State.reset with cpu := { State.reset.cpu with sp := 0xC000 } }))
      (fun t => [t.cpu.pc.toNat, t.cpu.sp.toNat, t.cycles]) = some [0x0153, 0xC002, 16] := by
  rfl

/-- 95_test_vectors.md V165. -/
theorem test_ret_nz_not_taken :
    after [0xC0] (store 0xC001 0x01 (store 0xC000 0x53 { State.reset with cpu := { State.reset.cpu with f := 0x80, sp := 0xC000 } }))
      (fun t => [t.cpu.pc.toNat, t.cpu.sp.toNat, t.cycles]) = some [0x0101, 0xC000, 8] := by
  rfl

/-- 95_test_vectors.md V166. -/
theorem test_ret_c_taken :
    after [0xD8] (store 0xC001 0x01 (store 0xC000 0x53 { State.reset with cpu := { State.reset.cpu with f := 0x10, sp := 0xC000 } }))
      (fun t => [t.cpu.pc.toNat, t.cpu.sp.toNat, t.cycles]) = some [0x0153, 0xC002, 20] := by
  rfl

/-- 95_test_vectors.md V167. -/
theorem test_reti_sets_ime :
    after [0xD9] (store 0xC001 0x01 (store 0xC000 0x53 { State.reset with cpu := { State.reset.cpu with sp := 0xC000 } }))
      (fun t => [t.cpu.pc.toNat, t.cpu.sp.toNat, t.ints.ime.toNat, t.cycles]) = some [0x0153, 0xC002, 1, 16] := by
  rfl

/-- 95_test_vectors.md V168. -/
theorem test_rst_28 :
    after [0xEF] { State.reset with cpu := { State.reset.cpu with sp := 0xD000 } }
      (fun t => [t.cpu.sp.toNat, cellOf 0xCFFF t, cellOf 0xCFFE t, t.cycles]) = some [0xCFFE, 0x01, 0x01, 16] := by
  rfl

/-- 95_test_vectors.md V180. -/
theorem test_nop :
    after [0x00] State.reset
      (fun t => [t.cpu.pc.toNat, (getStackPair .af t).toNat, t.timer.div.toNat, t.cycles]) = some [0x0101, 0x01B0, 0x00, 4] := by
  rfl

/-- 95_test_vectors.md V184. -/
theorem test_ei_latches :
    after [0xFB, 0x00] { State.reset with ints := { State.reset.ints with ime := false } }
      (fun t => [t.ints.ime.toNat, (latchCode t), t.cycles]) = some [0, 1, 4] := by
  rfl

/-- 95_test_vectors.md V187. -/
theorem test_di_latches :
    after [0xF3, 0x00] { State.reset with ints := { State.reset.ints with ime := true } }
      (fun t => [t.ints.ime.toNat, (latchCode t), t.cycles]) = some [1, 2, 4] := by
  rfl

/-- 95_test_vectors.md V189. -/
theorem test_lost_di :
    after [0xF3, 0x00] { State.reset with cpu := { State.reset.cpu with sp := 0xD000 }, ints := { ime := true, ie := 0x01, iflag := 0x01 } }
      (fun t => [t.ints.iflag.toNat, cellOf 0xCFFF t, cellOf 0xCFFE t, t.cycles]) = some [0x00, 0x01, 0x01, 4] := by
  rfl

/-- 95_test_vectors.md V191. -/
theorem test_undefined_faults : step (placeBytes [0xD3] 0x0100 State.reset) = .fault (.undefinedOpcode 0xD3 0x0100) := rfl

/-- 46_system.md R286 with `UNDEF_OP` = nop. -/
theorem test_undefined_nop :
    after [0xD3] { State.reset with params := { State.reset.params with undefOp := .nop } } (fun t => [t.cpu.pc.toNat, t.cycles]) = some [0x0101, 4] := by
  rfl

/-- 60_exceptions.md R301, R305: Timer, vector 0x50, at the end of the step; `IF` bit 2 and `IME` cleared, the address 0x0101 on the stack. -/
theorem test_dispatch_timer :
    after [0x00] { State.reset with ints := { ime := true, iflag := 0x14, ie := 0x1C } }
      (fun t => [t.cpu.pc.toNat, t.ints.iflag.toNat, t.ints.ime.toNat, cellOf 0xFFFD t, cellOf 0xFFFC t]) = some [0x50, 0x10, 0, 0x01, 0x01] := by
  rfl

/-- 60_exceptions.md R307: a halted CPU wakes with `IME` = 0 and dispatches nothing. -/
theorem test_halt_wakes :
    after [] { State.reset with cpu := { State.reset.cpu with halted := true }, ints := { ime := false, iflag := 0x04, ie := 0x04 } }
      (fun t => [t.cpu.halted.toNat, t.cpu.pc.toNat, t.ints.iflag.toNat, t.cycles]) = some [0, 0x0100, 0x04, 4] := by
  rfl

/-- 20_memory.md R57: the 160 bytes from 0xC100 into OAM, the last one too. -/
theorem test_dma : cellOf 0xFE9F (store 0xFF46 0xC1 (store 0xC19F 0x5A State.reset)) = 0x5A := by decide +kernel

/-- 20_memory.md R59: a write to `DIV` clears it. -/
theorem test_div_clears :
    (store 0xFF04 0x77 { State.reset with timer := { State.reset.timer with div := 9, divAcc := 7 } }).timer = State.reset.timer := rfl

/-- 60_exceptions.md R323: overflow from 0xFF reloads `TMA` and requests interrupt 2. -/
theorem test_timer_overflow :
    (let t := counterUpdate 4 { State.reset with timer := { State.reset.timer with tima := 0xFF, tma := 0x23, tmc := 0x05, timaAcc := 12 } }
     [t.timer.tima.toNat, t.timer.timaAcc, t.ints.iflag.toNat]) = [0x23, 0, 0x04] := rfl

/-- 60_exceptions.md R333: the end of line 143 enters `VBlank` at line 144 and requests interrupt 0. -/
theorem test_vblank_entry :
    (let t := ppuExecute 4 { State.reset with ppu := { State.reset.ppu with mode := .hBlank, ly := 143, acc := 200 } }
     [t.ppu.ly.toNat, t.ppu.acc, t.ints.iflag.toNat, t.ppu.stat.toNat % 4]) = [144, 0, 0x01, 1] := rfl

/-- 60_exceptions.md R342, R343: tile 1's first row, `lo` = 0x80 and `hi` = 0xC0, through palette 0xE4: shades 3, 2, 0. -/
theorem test_background_row :
    ((backgroundRow (store 0x9800 1 (store 0x8010 0x80 (store 0x8011 0xC0 { State.reset with ppu := { State.reset.ppu with bgp := 0xE4 } }))) 0).take 3)
      = [3, 2, 0] := rfl

/-- 60_exceptions.md R346: the sprite at the top left corner paints its first pixel, colour 1, through palette 0xE4. -/
theorem test_sprite_pixel :
    spriteShade (store 0xFE00 16 (store 0xFE01 8 (store 0x8000 0x80 { State.reset with ppu := { State.reset.ppu with obp0 := 0xE4 } }))) 0 0 0 = some 1 :=
  rfl

/-- 20_memory.md R75, R78: MBC1 bank 0x20 is remapped to 0x21. -/
theorem test_mbc1_remap : (mbc1Write defaultParams { Mbc1.reset with romBank := 0x21 } 0x2000 0x00).romBank = 0x21 := rfl

/-- 20_memory.md R85: MBC2 cells hold four bits. -/
theorem test_mbc2_nibble :
    (mbc2Read defaultParams { len := 0, cells := [] } (mbc2Write defaultParams { Mbc2.reset with ramEnabled := true } 0xA1FF 0xFF) 0xA1FF) = .ok 0x0F := rfl

/-! ## Witnesses: each statement's hypotheses are met -/

/-- A machine with HL, BC, DE, C and SP at bytes that can be read and written, 0x2A at each operand. -/
def wit : State :=
  store 0xC000 0x2A (store 0xC040 0x2A (store 0xC080 0x2A
    { State.reset with cpu := { State.reset.cpu with h := 0xC0, l := 0x00, b := 0xC0, c := 0x40, d := 0xC0, e := 0x80, sp := 0xD000 } }))

/-- An outcome is a next state. -/
def completes (o : Out) : Bool :=
  match o with
  | .next _ => true
  | .fault _ => false
  | .refused _ => false

/-- A write completes. -/
def writes (a : Word) (v : Byte) (s : State) : Bool :=
  match memWrite a v s with
  | .ok _ => true
  | .error _ => false

/-- The kind a selector loads. -/
def loads (v : Byte) : Option Kind :=
  match State.load (List.replicate 0x147 0 ++ [v]) with
  | .ok s => some (kindOf s.cart.mbc)
  | .error _ => none

theorem writes_iff (a : Word) (v : Byte) (s : State) : writes a v s = true ↔ ∃ t, memWrite a v s = .ok t := by
  unfold writes
  split
  · next t h => exact ⟨fun _ => ⟨t, h⟩, fun _ => rfl⟩
  · next h => simp [h]

theorem completes_iff (o : Out) : completes o = true ↔ ∃ t, o = .next t := by
  cases o <;> simp [completes]

/-- 20_memory.md R72: selector 0x02 is MBC1, selector 0x08 is refused. -/
theorem test_load_selector : loads 0x02 = some .mbc1 ∧ loads 0x08 = none := by decide +kernel

theorem witness_DecodeEncode :
    encodable 0xCB (.ld_a_n 0x05) = true ∧ encodable 0xCB (.jp_nn 0xFFFF) = true ∧ encodable 0xCB .set_7_atHL = true ∧
    encodable 0xED .set_7_atHL = true ∧ encodable 0xED (.prefix_cb 0x37) = true ∧ encodable 0xED .undefined_ed = false := ⟨rfl, rfl, rfl, rfl, rfl, rfl⟩

theorem witness_DecodeInverse :
    decode 0xCB [0xFA, 0x00, 0xC1, 0x76] = .ok (.ld_a_atNn 0xC100, [0x76]) ∧ decode 0xED [0xED, 0x37] = .ok (.swap_a, []) := ⟨rfl, rfl⟩

theorem witness_LoadedMachine : loads 0x00 = some .romOnly ∧ loads 0x03 = some .mbc1 ∧ loads 0x06 = some .mbc2 := by decide +kernel

/-- The three clauses: a step that completes, a step whose dispatch faults (its push triggers a DMA copy beyond a short image), an undefined byte. -/
theorem witness_StepRunsDecodedInstruction :
    (let s := placeBytes [0x00] 0xC000 { State.reset with cpu := { State.reset.cpu with pc := 0xC000 } }
     (atFetch s).cpu.halted = false ∧ (atFetch s).cpu.stopped = false ∧ Fetches (atFetch s) [0x00] .nop ∧
       ∃ t u, exec .nop (setPc 0xC001 (atFetch s)) = .next t ∧ afterCycles t.cycles t = .ok u) ∧
    (let s := placeBytes [0x00] 0xC000 { State.reset with
       cpu := { State.reset.cpu with pc := 0xC000, sp := 0xFF48 }, ints := { ime := true, iflag := 1, ie := 1 }
       cart := { image := { len := 0x148, cells := [] }, mbc := .romOnly } }
     ∃ t f, exec .nop (setPc 0xC001 (atFetch s)) = .next t ∧ afterCycles t.cycles t = .error f) ∧
    (let s := placeBytes [0xD3] 0xC000 { State.reset with cpu := { State.reset.cpu with pc := 0xC000 } }
     Fetches (atFetch s) [0xD3] .undefined_d3 ∧ ∃ f, exec .undefined_d3 (setPc 0xC001 (atFetch s)) = .fault f) := by
  refine ⟨⟨rfl, rfl, ⟨by decide, fun k h => ?_, rfl⟩, _, _, rfl, rfl⟩, ⟨_, _, rfl, rfl⟩, ⟨by decide, fun k h => ?_, rfl⟩, _, rfl⟩
  all_goals
    have h0 : k = 0 := by simpa using h
    subst h0
    rfl

theorem witness_IdleAndStopped :
    (let s := { State.reset with cpu := { State.reset.cpu with halted := true } }
     (atFetch s).cpu.halted = true ∧ ∃ t, afterCycles s.params.cycIdle { atFetch s with cycles := s.params.cycIdle } = .ok t) ∧
    (let s := placeBytes [0x76] 0x0100 { State.reset with ints := { ime := false, iflag := 0xF0, ie := 0x10 } }
     (atFetch s).cpu.halted = false ∧ (atFetch s).cpu.stopped = false ∧ (atFetch s).ints.ime = false ∧
       (atFetch s).ints.iflag &&& (atFetch s).ints.ie &&& 0x1F ≠ 0 ∧ (atFetch s).params.prefixByte ≠ 0x76 ∧
       memRead (atFetch s).cpu.pc (atFetch s) = .ok 0x76 ∧ completes (step s) = true) ∧
    (let s := { State.reset with cpu := { State.reset.cpu with stopped := true } }
     s.cpu.stopped = true ∧ completes (step s) = true) := by
  exact ⟨⟨rfl, _, rfl⟩, ⟨rfl, rfl, rfl, by decide, by decide, rfl, rfl⟩, rfl, rfl⟩

theorem witness_DeferredLatchHazards :
    (let s := placeBytes [0xFB] 0x0100 { State.reset with ints := { ime := false, iflag := 1, ie := 1 } }
     (atFetch s).params.imeDefer = .deferred ∧ (atFetch s).cpu.halted = false ∧ (atFetch s).cpu.stopped = false ∧ (atFetch s).ints.ime = false ∧
       (atFetch s).params.prefixByte ≠ 0xFB ∧ memRead (atFetch s).cpu.pc (atFetch s) = .ok 0xFB ∧ completes (step s) = true) ∧
    (let s := placeBytes [0xF3] 0x0100 { State.reset with ints := { ime := true, iflag := 0x10, ie := 0x10 } }
     (atFetch s).params.imeDefer = .deferred ∧ (atFetch s).cpu.halted = false ∧ (atFetch s).cpu.stopped = false ∧ (atFetch s).ints.ime = true ∧
       (atFetch s).ints.iflag &&& (atFetch s).ints.ie &&& 0x1F ≠ 0 ∧ (atFetch s).params.prefixByte ≠ 0xF3 ∧
       memRead (atFetch s).cpu.pc (atFetch s) = .ok 0xF3 ∧ completes (step s) = true) := by
  exact ⟨⟨rfl, rfl, rfl, rfl, by decide, rfl, rfl⟩, rfl, rfl, rfl, rfl, by decide, by decide, rfl, rfl⟩

theorem witness_PairViews : FlagsOk State.reset ∧ FlagsOk { State.reset with cpu := { State.reset.cpu with f := 0xF0 } } := by
  unfold FlagsOk
  exact ⟨rfl, rfl⟩

theorem witness_FlagRegister :
    FlagsOk State.reset ∧ completes (exec .pop_af wit) = true ∧ completes (step State.reset) = true := by
  unfold FlagsOk
  exact ⟨rfl, rfl, rfl⟩

/-- The lines of the memory map at their first and last addresses: each address belongs to one line. -/
theorem witness_BusReadMap :
    isPlain 0x7FFF = false ∧ isPlain 0x8000 = true ∧ isPlain 0x9FFF = true ∧ isPlain 0xA000 = false ∧ isPlain 0xBFFF = false ∧
    isWork 0xBFFF = false ∧ isWork 0xC000 = true ∧ isPlain 0xC000 = false ∧ isWork 0xFDFF = true ∧ isWork 0xFE00 = false ∧
    isPlain 0xFE00 = true ∧ isPlain 0xFE9F = true ∧ isPlain 0xFEA0 = false ∧ isPlain 0xFEFF = false ∧ isPlain 0xFF00 = false ∧
    isPlain 0xFF01 = true ∧ isPlain 0xFF03 = true ∧ isPlain 0xFF04 = false ∧ isPlain 0xFF07 = false ∧ isPlain 0xFF08 = true ∧
    isPlain 0xFF0E = true ∧ isPlain 0xFF0F = false ∧ isPlain 0xFF10 = true ∧ isPlain 0xFF3F = true ∧ isPlain 0xFF40 = false ∧ isPlain 0xFF4B = false ∧
    isPlain 0xFF4C = true ∧ isPlain 0xFFFE = true ∧ isPlain 0xFFFF = false := by decide

/-- The last clause of both maps holds at the edges of every range the earlier lines leave. -/
theorem witness_BusMapOtherwise :
    NoEarlierLine 0x8000 ∧ NoEarlierLine 0x9FFF ∧ NoEarlierLine 0xC000 ∧ NoEarlierLine 0xFDFF ∧ NoEarlierLine 0xFE00 ∧ NoEarlierLine 0xFE9F ∧
    NoEarlierLine 0xFF01 ∧ NoEarlierLine 0xFF03 ∧ NoEarlierLine 0xFF08 ∧ NoEarlierLine 0xFF0E ∧ NoEarlierLine 0xFF10 ∧ NoEarlierLine 0xFF3F ∧
    NoEarlierLine 0xFF4C ∧ NoEarlierLine 0xFFFE ∧ ¬ NoEarlierLine 0x7FFF ∧ ¬ NoEarlierLine 0xA000 ∧ ¬ NoEarlierLine 0xFEA0 ∧
    ¬ NoEarlierLine 0xFF00 ∧ ¬ NoEarlierLine 0xFF46 ∧ ¬ NoEarlierLine 0xFFFF := by
  simp [NoEarlierLine]

/-- The lines of the write map at the edges of their ranges. -/
theorem witness_BusWriteMap :
    inRange 0x0000 0x0000 0x7FFF ∧ inRange 0xBFFF 0xA000 0xBFFF ∧ inRange 0xC000 0xC000 0xDDFF ∧ inRange 0xDDFF 0xC000 0xDDFF ∧
    inRange 0xDE00 0xDE00 0xDFFF ∧ inRange 0xDFFF 0xDE00 0xDFFF ∧ inRange 0xE000 0xE000 0xFDFF ∧ inRange 0xFDFF 0xE000 0xFDFF ∧
    inRange 0xFEA0 0xFEA0 0xFEFF ∧ inRange 0xFEFF 0xFEA0 0xFEFF := by decide

theorem witness_CellsReadBack :
    isPlain (0x8000 : Word).toNat = true ∧ isWork (0xFDFF : Word).toNat = true ∧ inRange 0xC000 0xC000 0xDDFF ∧ inRange 0xDDFF 0xC000 0xDDFF ∧
    (0xE000 : Word).toNat = (0xC000 : Word).toNat + 0x2000 ∧ (0xFDFF : Word).toNat = (0xDDFF : Word).toNat + 0x2000 := by decide

/-- A copy that completes, and one that does not: its source lies beyond a short image. -/
theorem witness_DmaCopy :
    writes 0xFF46 0xC0 State.reset = true ∧
    writes 0xFF46 0x01 { State.reset with cart := { image := { len := 0x148, cells := [] }, mbc := .romOnly } } = false := by decide +kernel

theorem witness_BusCompletesAndKeeps :
    (0x7FFF : Word).toNat < 0x8000 ∧ imageOffset .romOnly 0x7FFF < State.reset.cart.image.len ∧
    (let s := { State.reset with cart := { image := { len := 0x148, cells := [] }, mbc := .mbc1 Mbc1.reset } }
     s.cart.image.len ≤ imageOffset s.cart.mbc 0x4000) ∧
    writes 0x2000 0x05 State.reset = true := by decide

theorem witness_BusWriteFootprint : writes 0xC000 0x11 wit = true ∧ mayChange 0xC000 0xC001 = false ∧ mayChange 0xC000 0xE000 = true := by decide

/-- The windows of both controllers at the edges of their ranges. -/
theorem witness_Mbc1Control :
    (0x1FFF : Word).toNat < 0x2000 ∧ inRange 0x2000 0x2000 0x3FFF ∧ inRange 0x3FFF 0x2000 0x3FFF ∧ inRange 0x4000 0x4000 0x5FFF ∧
    inRange 0x5FFF 0x4000 0x5FFF ∧ Mbc1.reset.romBankingMode = true ∧ ({ Mbc1.reset with romBankingMode := false } : Mbc1).romBankingMode = false := by
  decide

theorem witness_Mbc1Windows :
    inRange 0x6000 0x6000 0x7FFF ∧ (0x3FFF : Word).toNat < 0x8000 ∧ (0x7FFF : Word).toNat - 0x4000 + Mbc1.reset.romBank.toNat * 0x4000 < 0x8000 ∧
    inRange 0xA000 0xA000 0xBFFF ∧ ({ Mbc1.reset with ramEnabled := true } : Mbc1).ramEnabled = true ∧ Mbc1.reset.ramEnabled = false ∧
    (0xBFFF : Word).toNat - 0xA000 + Mbc1.reset.ramBank.toNat * 0x2000 < defaultParams.cartRamSize.mbc1 ∧
    ({ mbc1 := 0, mbc2 := 0 } : CartRamSize).mbc1 ≤ (0xA000 : Word).toNat - 0xA000 + Mbc1.reset.ramBank.toNat * 0x2000 := by decide

theorem witness_Mbc2AndRomOnly :
    (0x2100 : Word).toNat / 256 % 2 = 1 ∧ (0x2000 : Word).toNat / 256 % 2 = 0 ∧ inRange 0x4000 0x4000 0x7FFF ∧
    (0x7FFF : Word).toNat - 0x4000 + Mbc2.reset.romBank.toNat * 0x4000 < 0x8000 ∧ inRange 0xA1FF 0xA000 0xA1FF ∧
    ({ Mbc2.reset with ramEnabled := true } : Mbc2).ramEnabled = true ∧ inRange 0xA200 0xA000 0xBFFF ∧ Mbc2.reset.ramEnabled = false ∧
    (0xA1FF : Word).toNat - 0xA000 < defaultParams.cartRamSize.mbc2 ∧ ({ mbc1 := 0, mbc2 := 0 } : CartRamSize).mbc2 ≤ (0xA000 : Word).toNat - 0xA000 := by
  decide

theorem witness_LoadByte :
    memRead (getHL wit) wit = .ok 0x2A ∧ memRead (getPair .bc wit) wit = .ok 0x2A ∧ memRead (getPair .de wit) wit = .ok 0x2A ∧
    memRead 0xC040 wit = .ok 0x2A ∧ memRead (0xFF00 + wit.cpu.c.setWidth 16) wit = .ok 0x91 ∧
    memRead (0xFF00 + (0x47 : Byte).setWidth 16) wit = .ok 0xFC := ⟨rfl, rfl, rfl, rfl, rfl, rfl⟩

theorem witness_StoreByte :
    writes (getHL wit) 0x11 wit = true ∧ writes (getPair .bc wit) wit.cpu.a wit = true ∧ writes (getPair .de wit) wit.cpu.a wit = true ∧
    writes 0xFFFF wit.cpu.a wit = true ∧ writes (0xFF00 + wit.cpu.c.setWidth 16) wit.cpu.a wit = true ∧
    writes (0xFF00 + (0x80 : Byte).setWidth 16) wit.cpu.a wit = true := ⟨rfl, rfl, rfl, rfl, rfl, rfl⟩

theorem witness_Load16AndStack :
    (∃ s1 s2, memWrite 0xFFFF (loByte wit.cpu.sp) wit = .ok s1 ∧ memWrite (0xFFFF + 1) (hiByte wit.cpu.sp) s1 = .ok s2) ∧
    (∃ t, Pushed 0x1234 wit t) ∧ OnStack 0x0000 wit :=
  ⟨⟨_, _, rfl, rfl⟩, ⟨_, _, _, rfl, rfl, rfl⟩, by decide +kernel, by decide +kernel⟩

theorem witness_PopFindsPushed :
    wit.cpu.sp - 1 ≠ 0xFF46 ∧ wit.cpu.sp - 2 ≠ 0xFF46 ∧ (∃ t, Pushed 0x1234 wit t) ∧ isWork (wit.cpu.sp - 1).toNat = true ∧
    isWork (wit.cpu.sp - 2).toNat = true ∧ isPlain ((0xFFFE : Word) - 1).toNat = true ∧ isPlain ((0xFFFE : Word) - 2).toNat = true := by
  exact ⟨by decide, by decide, ⟨_, _, _, rfl, rfl, rfl⟩, rfl, rfl, rfl, rfl⟩

theorem witness_AddWithCarry :
    (Source.loc .atHL).value wit = .ok 0x2A ∧ (Source.loc (.reg .a)).value wit = .ok 0x01 ∧ (Source.imm 0xFF).value wit = .ok 0xFF :=
  ⟨rfl, rfl, rfl⟩

theorem witness_SubtractAndCompare : (Source.loc .atHL).value wit = .ok 0x2A ∧ (Source.imm 0x01).value wit = .ok 0x01 := ⟨rfl, rfl⟩

theorem witness_LogicAndFlagOps : (Source.loc .atHL).value wit = .ok 0x2A ∧ (Source.imm 0x00).value wit = .ok 0x00 := ⟨rfl, rfl⟩

theorem witness_IncrementDecrement :
    readLoc .atHL wit = .ok 0x2A ∧ (∃ t, writeLoc .atHL (BitVec.ofNat 8 0x2B) wit = .ok t) ∧ readLoc (.reg .a) wit = .ok 0x01 ∧
    ∃ t, writeLoc (.reg .a) (BitVec.ofNat 8 0x100) wit = .ok t := ⟨rfl, ⟨_, rfl⟩, rfl, _, rfl⟩

theorem witness_IncThenDecRestores :
    ∃ t u, exec (Form.inc (.reg .a)).toInstr wit = .next t ∧ exec (Form.dec (.reg .a)).toInstr t = .next u := ⟨_, _, rfl, rfl⟩

theorem witness_DecimalAdjustIsDecimal :
    ({ wit with cpu := { wit.cpu with a := 0x99 } } : State).cpu.a.toNat = 99 / 10 * 16 + 99 % 10 ∧
    readLoc .atHL wit = .ok (BitVec.ofNat 8 (24 / 10 * 16 + 24 % 10 + 6)) ∧
    readLoc (.reg .b) { wit with cpu := { wit.cpu with a := 0x99, b := 0x01 } } = .ok (BitVec.ofNat 8 (1 / 10 * 16 + 1 % 10)) ∧
    (∃ t u, exec (Form.alu .add (.reg .b)).toInstr { wit with cpu := { wit.cpu with a := 0x99, b := 0x01 } } = .next t ∧
      exec Form.daa.toInstr t = .next u ∧ u.cpu.a = 0x00 ∧ cf u = true) ∧
    ∃ t u, exec (Form.alu .sub (.reg .b)).toInstr { wit with cpu := { wit.cpu with a := 0x00, b := 0x01 } } = .next t ∧
      exec Form.daa.toInstr t = .next u ∧ u.cpu.a = 0x99 ∧ cf u = true :=
  ⟨rfl, rfl, rfl, ⟨_, _, rfl, rfl, rfl, rfl⟩, _, _, rfl, rfl, rfl, rfl⟩

theorem witness_Arithmetic16 :
    wit.params.addSpFlags = .bits11and15 ∧
    ({ wit with params := { wit.params with addSpFlags := .bits3and7 } } : State).params.addSpFlags = .bits3and7 := ⟨rfl, rfl⟩

theorem witness_Rotates :
    readLoc .atHL wit = .ok 0x2A ∧ (∃ t, writeLoc .atHL (BitVec.ofNat 8 (rotResult .swap 0x2A (carryNat wit))) wit = .ok t) ∧
    readLoc (.reg .a) wit = .ok 0x01 ∧ ∃ t, writeLoc (.reg .a) (BitVec.ofNat 8 (rotResult .rr 0x01 (carryNat wit))) wit = .ok t :=
  ⟨rfl, ⟨_, rfl⟩, rfl, _, rfl⟩

theorem witness_BitOperations :
    readLoc .atHL wit = .ok 0x2A ∧ (∃ t, writeLoc .atHL 0x28 wit = .ok t) ∧ ∃ t, writeLoc .atHL 0xAA wit = .ok t := ⟨rfl, ⟨_, rfl⟩, _, rfl⟩

theorem witness_PrefixRow : (0xC7 : Byte).toNat % 8 ≠ 6 ∧ memRead (getHL wit) wit = .ok 0x2A ∧ getHL wit ≠ 0xFF46 := ⟨by decide, rfl, by decide⟩

theorem witness_Jumps : cond .z wit = true ∧ cond .nz wit = false ∧ cond .c wit = true ∧ cond .nc wit = false := ⟨rfl, rfl, rfl, rfl⟩

theorem witness_CallsAndReturns :
    (∃ t, Pushed wit.cpu.pc wit t) ∧ cond .z wit = true ∧ cond .nz wit = false ∧ OnStack 0x0000 wit :=
  ⟨⟨_, _, _, rfl, rfl, rfl⟩, rfl, rfl, by decide +kernel, by decide +kernel⟩

theorem witness_SystemInstructions :
    wit.params.imeDefer = .deferred ∧ ({ wit with params := { wit.params with imeDefer := .immediate } } : State).params.imeDefer = .immediate :=
  ⟨rfl, rfl⟩

theorem witness_UndefinedBytes :
    wit.params.undefOp = .fault ∧ ({ wit with params := { wit.params with undefOp := .nop } } : State).params.undefOp = .nop := ⟨rfl, rfl⟩

theorem witness_RegisterFrame :
    completes (exec (Form.push .bc).toInstr wit) = true ∧ completes (exec (Form.prefixCb 0xC6).toInstr wit) = true ∧
    completes (exec (Form.jr 0x80).toInstr wit) = true ∧ writesFlags (.jr 0x80) = false ∧ writesSp (.jr 0x80) = false ∧
    writesPc (.push .bc) = false ∧ writesIme (.push .bc) = false ∧ Reg8.a ∉ destRegs (.push .bc) := by
  exact ⟨rfl, rfl, rfl, rfl, rfl, rfl, rfl, by decide⟩

theorem witness_MemoryFrame :
    completes (exec (Form.ldToHL .a).toInstr wit) = true ∧ storeTargets (.ldToHL .a) wit = [0xC000] ∧ mayChange 0xC000 0xC001 = false ∧
    completes (exec (Form.alu .cp .atHL).toInstr wit) = true ∧ storeTargets (.alu .cp .atHL) wit = [] := ⟨rfl, rfl, by decide, rfl, rfl⟩

theorem witness_DeviceFrame :
    completes (exec (Form.ldToHL .a).toInstr wit) = true ∧ completes (exec (Form.bit .n7 .atHL).toInstr wit) = true ∧
    storeTargets (.bit .n7 .atHL) wit = [] := ⟨rfl, rfl, rfl⟩

theorem witness_DispatchEntry :
    let s := { wit with ints := { ime := true, iflag := 0xF0, ie := 0x10 } }
    (∀ k, k < 8 → (0xE0 : Byte).getLsbD k = (s.ints.iflag.getLsbD k && decide (k ≠ 4))) ∧
    ∃ t, Pushed s.cpu.pc { s with ints := { s.ints with iflag := 0xE0, ime := false }, cpu := { s.cpu with imePending := .none, halted := false } } t :=
  ⟨by decide, _, _, _, rfl, rfl, rfl⟩

theorem witness_ResolvePriority :
    (let s := { wit with ints := { ime := true, iflag := 0x18, ie := 0x1F } }
     s.ints.ime = true ∧ s.ints.iflag.getLsbD 3 = true ∧ s.ints.ie.getLsbD 3 = true ∧
       (∀ k, k < 3 → s.ints.iflag.getLsbD k = false ∨ s.ints.ie.getLsbD k = false) ∧
       ∀ k, k < 5 → (0xE0 : Byte).getLsbD k = false ∨ s.ints.ie.getLsbD k = false) ∧
    wit.ints.ime = false ∧ wit.cpu.halted = false ∧ wit.ints.iflag &&& wit.ints.ie &&& 0x1F = 0 :=
  ⟨⟨rfl, rfl, rfl, by decide, by decide⟩, rfl, rfl, rfl⟩

theorem witness_HaltWake :
    let s := { wit with ints := { ime := false, iflag := 0x10, ie := 0x10 }, cpu := { wit.cpu with halted := true } }
    s.ints.ime = false ∧ s.cpu.halted = true ∧ s.ints.iflag &&& s.ints.ie &&& 0x1F ≠ 0 ∧ (0xE0 : Byte) &&& 0xFF &&& 0x1F = 0 ∧
      wit.cpu.halted = false := ⟨rfl, rfl, by decide, by decide, rfl⟩

theorem witness_ImeChangedOnlyBy :
    writes 0xFF0F 0xFF wit = true ∧ completes (exec Form.halt.toInstr wit) = true ∧ ∃ t, takeInterrupt 4 wit = .ok t := ⟨rfl, rfl, _, rfl⟩

theorem witness_DividerLoop : State.reset.timer.divAcc < 256 ∧ ({ State.reset.timer with divAcc := 255 } : Timer).divAcc < 256 := ⟨by decide, by decide⟩

theorem witness_TimerCounter :
    State.reset.timer.tmc.getLsbD 2 = false ∧ (0x05 : Byte).getLsbD 2 = true ∧ State.reset.timer.tima = State.reset.timer.tma ∧
    ({ State.reset.timer with tima := 0xFF } : Timer).tima = 0xFF ∧ State.reset.timer.tima ≠ 0xFF := ⟨rfl, rfl, rfl, rfl, by decide⟩

/-- Within a mode, at its end in each of the four, and both ends of `HBlank` and `VBlank`. -/
theorem witness_ScanlineStateMachine :
    State.reset.ppu.acc + 4 < modeCycles State.reset.ppu.mode ∧ modeCycles .oamSearch ≤ 76 + 4 ∧ modeCycles .pixelTransfer ≤ 168 + 4 ∧
    modeCycles .hBlank ≤ 200 + 4 ∧ modeCycles .vBlank ≤ 452 + 4 ∧ (143 : Byte) = 143 ∧ (0 : Byte) ≠ 143 ∧ (152 : Byte).toNat < 153 ∧
    153 ≤ (153 : Byte).toNat := by decide

theorem witness_EnterModeStat :
    (0x08 : Byte).getLsbD 3 = true ∧ (0x10 : Byte).getLsbD 4 = true ∧ (0x20 : Byte).getLsbD 5 = true ∧ (0x40 : Byte).getLsbD 6 = true ∧
    State.reset.ppu.ly = State.reset.ppu.lyc ∧ State.reset.ppu.stat.getLsbD 6 = false ∧ State.reset.ppu.stat.getLsbD 5 = false := by decide

theorem witness_FrameOf70224Cycles : PixelUnitOk State.reset.ppu := by
  refine ⟨?_, by decide, List.length_replicate, fun row hr => ?_⟩
  · unfold LineOk
    decide
  · rw [List.eq_of_mem_replicate hr]
    exact List.length_replicate

theorem witness_BackgroundPixel :
    State.reset.ppu.fb.length = 144 ∧ State.reset.ppu.lcdc.getLsbD 1 = false ∧ State.reset.ppu.lcdc.getLsbD 0 = true ∧ (0x90 : Byte).getLsbD 0 = false :=
  ⟨List.length_replicate, by decide, by decide, by decide⟩

/-- Sprite 0 at the top left corner, every other sprite off the line. -/
def spriteWit : State :=
  store 0xFE00 16 (store 0xFE01 8 (store 0x8000 0x80 { State.reset with ppu := { State.reset.ppu with lcdc := 0x93 } }))

theorem witness_SpriteComposition :
    spriteWit.ppu.fb.length = 144 ∧ spriteWit.ppu.lcdc.getLsbD 1 = true ∧ spriteShade spriteWit 0 0 0 = some 3 ∧
    (∀ j, j < 40 → 0 < j → spriteShade spriteWit 0 0 j = none) ∧ ∀ i, i < 40 → spriteShade spriteWit 0 159 i = none := by decide +kernel

theorem witness_RenderWritesOneRow : 143 < 144 ∧ 143 < State.reset.ppu.fb.length := ⟨by decide, by rw [witness_BackgroundPixel.1]; decide⟩

theorem witness_StepKeepsMemoryAndBanks :
    let s := { State.reset with cart := { State.reset.cart with mbc := .mbc1 Mbc1.reset } }
    MemOk s ∧ EchoOk s ∧ MbcOk s.cart.mbc ∧ completes (step s) = true :=
  ⟨⟨rfl, fun c h => by cases h⟩, fun _ _ _ => rfl, ⟨by decide, by decide, by decide, by decide, rfl, fun c h => by cases h⟩, rfl⟩

theorem witness_StepKeepsDevices :
    FiguresOk State.reset.params ∧ DividerOk State.reset ∧ PixelUnitOk State.reset.ppu ∧ completes (step State.reset) = true :=
  ⟨by unfold FiguresOk; decide +kernel, by unfold DividerOk; decide, witness_FrameOf70224Cycles, rfl⟩

theorem witness_StepKeepsCartridgeAndParameters : completes (step State.reset) = true := rfl

theorem witness_DefaultFigures : State.reset.params = defaultParams := rfl

/-! ## Other parameters than the defaults (00_scope.md R7) -/

/-- A machine with other figures, another prefix and no MBC1 RAM. -/
def otherParams : Params :=
  { defaultParams with prefixByte := 0xED, cyc := List.replicate 256 (branch 7 5), cycCb := List.replicate 256 9, cycIdle := 3, cycInt := 20,
                       cartRamSize := { mbc1 := 0, mbc2 := 0 } }

/-- The step of the two bytes at `PC` in work RAM, with `DIV`'s accumulator and the count it leaves. -/
def otherRun (bytes : List Byte) (s : State) : Option (List Nat) :=
  match step (placeBytes bytes 0xC000 { s with cpu := { s.cpu with pc := 0xC000, sp := 0xD000 }, params := otherParams }) with
  | .next t => some [t.cycles, t.timer.divAcc, t.ppu.acc, t.cpu.pc.toNat]
  | _ => none

/-- `SWAP A` behind the other prefix costs `CYC_CB`, which timer and pixel unit both consume (70_reset_and_hazards.md R397); `JR NZ` not taken, with the Z
of reset, costs the not-taken figure. -/
theorem test_figures_are_parameters :
    otherRun [0xED, 0x37] State.reset = some [9, 9, 9, 0xC002] ∧ otherRun [0x20, 0x10] State.reset = some [5, 5, 5, 0xC002] := ⟨rfl, rfl⟩

/-- A halted step costs `CYC_IDLE` = 3; a dispatch after a `NOP` of 7 cycles advances the devices by `CYC_INT` = 20 more (60_exceptions.md R305). -/
theorem test_idle_and_dispatch_cycles :
    otherRun [0x00] { State.reset with cpu := { State.reset.cpu with halted := true } } = some [3, 3, 3, 0xC000] ∧
    otherRun [0x00] { State.reset with ints := { ime := true, iflag := 0x04, ie := 0x04 } } = some [7, 27, 27, 0x0050] := ⟨rfl, rfl⟩

/-- Absent MBC1 RAM reads `CART_RAM_OFF_READ` though it is enabled. -/
theorem test_absent_cartridge_ram :
    (cartRead otherParams { image := State.reset.cart.image, mbc := .mbc1 { Mbc1.reset with ramEnabled := true } } 0xA000).toOption = some 0xFF := rfl

end Sys2Proof.Tests
end

/-! ## The 16-bit pair views, the zero nibble of `F`, and `IME` (10_state.md R21, R22, R28) -/

namespace Sys2Proof.Machine

/-! ### Pairs -/

/-- A pair of `PUSH` and `POP` reads back as written, but for the low nibble of `F`, which no write sets. -/
theorem getStackPair_setStackPair (p : StackPair) (w : Word) (s : State) :
    getStackPair p (setStackPair p w s) = if p = .af then w &&& 0xFFF0 else w := by
  cases p with
  | af =>
    have masked := cat_and_mask (hiByte w) (loByte w)
    rw [cat_hiByte_loByte] at masked
    have twice : loByte w &&& 0xF0 &&& 0xF0 = loByte w &&& 0xF0 := mask_of_low _ (mask_low _)
    show cat (hiByte w) (loByte w &&& 0xF0 &&& 0xF0) = _
    rw [twice, if_pos rfl, masked]
  | bc | de | hl => simp [getStackPair, setStackPair]

/-- With a zero low nibble, `F` read as a byte is `F`. -/
theorem getF_of_flagsOk {s : State} (h : FlagsOk s) : getF s = s.cpu.f := mask_of_low _ h

/-- Writing back what a pair reads changes nothing. -/
theorem setStackPair_getStackPair {s : State} (p : StackPair) (h : FlagsOk s) : setStackPair p (getStackPair p s) s = s := by
  cases p with
  | af =>
    have low : getF s &&& 0xF0 = s.cpu.f := by rw [getF_of_flagsOk h, mask_of_low _ h]
    simp only [getStackPair, setStackPair, setReg, setF, hiByte_cat, loByte_cat, low]
  | bc | de | hl => simp only [getStackPair, setStackPair, getPair, setPair, getHL, setHL, hiByte_cat, loByte_cat]

/-- Settles O12: a pair is its two bytes joined (`cat_toNat`), its write splits them again, and masking the low nibble of `F` is idempotent. -/
theorem pairViews : Obligations.PairViews := by
  refine ⟨fun s h => ⟨?_, cat_toNat .., cat_toNat .., cat_toNat ..⟩, fun w s => ⟨rfl, rfl, rfl, rfl⟩, getStackPair_setStackPair,
    getPair_setPair, fun p s h => setStackPair_getStackPair p h⟩
  rw [← getF_of_flagsOk h]
  exact cat_toNat ..

/-! ### What almost every operation keeps -/

/-- A zero low nibble of `F` stays zero, `IME` and its latch stay as they are: so every operation but those of `EI`, `DI` and `RETI`. -/
structure FlagsImeKept (s t : State) : Prop where
  flags : FlagsOk s → FlagsOk t
  ime : t.ints.ime = s.ints.ime
  latch : t.cpu.imePending = s.cpu.imePending

theorem flagsOk_congr {s t : State} (h : FlagsOk s) (e : t.cpu.f = s.cpu.f) : FlagsOk t := by
  unfold FlagsOk at *
  rw [e]
  exact h

/-- A change of neither `F`, `IME` nor the latch. -/
theorem FlagsImeKept.of_eq {s t : State} (hf : t.cpu.f = s.cpu.f) (hi : t.ints.ime = s.ints.ime) (hl : t.cpu.imePending = s.cpu.imePending) :
    FlagsImeKept s t := ⟨fun h => flagsOk_congr h hf, hi, hl⟩

theorem FlagsImeKept.refl (s : State) : FlagsImeKept s s := .of_eq rfl rfl rfl

theorem FlagsImeKept.trans {s t u : State} (h : FlagsImeKept s t) (k : FlagsImeKept t u) : FlagsImeKept s u :=
  ⟨k.flags ∘ h.flags, k.ime.trans h.ime, k.latch.trans h.latch⟩

/-- A bus write reaches neither the CPU nor `IME`. -/
theorem BusKept.flagsImeKept {s t : State} (k : BusKept s t) : FlagsImeKept s t := .of_eq (by rw [k.cpu]) k.ime (by rw [k.cpu])

/-! ### The register writes -/

theorem flagsImeKept_setReg (r : Reg8) (v : Byte) (s : State) : FlagsImeKept s (setReg r v s) := .of_eq (by simp) (by simp) (by simp)

theorem flagsImeKept_setPair (p : Pair) (w : Word) (s : State) : FlagsImeKept s (setPair p w s) := .of_eq (by simp) (by simp) (by simp)

theorem flagsImeKept_pointerStep (p : Pointer) (s : State) : FlagsImeKept s (pointerStep p s) := by
  cases p <;> exact .of_eq rfl rfl rfl

/-- `F` written as four flags has a zero low nibble, whatever it was before. -/
theorem flagsImeKept_setFlags (z n h c : Bool) (s : State) : FlagsImeKept s (setFlags z n h c s) := by
  obtain ⟨-, -, -, -, low⟩ := setFlags_flags z n h c s
  exact ⟨fun _ => low, rfl, rfl⟩

theorem flagsImeKept_setAluFlags (r : Alu) (s : State) : FlagsImeKept s (setAluFlags r s) := flagsImeKept_setFlags ..

/-- The write of `AF` masks the low nibble of `F`; the other pairs leave `F`. -/
theorem flagsImeKept_setStackPair (p : StackPair) (w : Word) (s : State) : FlagsImeKept s (setStackPair p w s) := by
  cases p with
  | af => exact ⟨fun _ => mask_low _, rfl, rfl⟩
  | bc | de | hl => exact .of_eq rfl rfl rfl

theorem flagsImeKept_aluOn (op : AluOp) (v : Byte) (s : State) : FlagsImeKept s (aluOn op v s) := by
  unfold aluOn
  split
  · exact (flagsImeKept_setReg ..).trans (flagsImeKept_setAluFlags ..)
  · exact flagsImeKept_setAluFlags ..

/-! ### The operations that access memory -/

theorem flagsImeKept_memWrite {a : Word} {v : Byte} {s t : State} (h : memWrite a v s = .ok t) : FlagsImeKept s t :=
  (memWrite_kept h).flagsImeKept

theorem flagsImeKept_writeLoc {v : Loc8} {x : Byte} {s t : State} (h : writeLoc v x s = .ok t) : FlagsImeKept s t := by
  cases v with
  | reg r =>
    rw [← Except.ok.inj h]
    exact flagsImeKept_setReg ..
  | atHL => exact flagsImeKept_memWrite h

theorem flagsImeKept_push16 {w : Word} {s t : State} (h : push16 w s = .ok t) : FlagsImeKept s t := by
  obtain ⟨s1, s2, -, -, k, rfl⟩ := push16_ok h
  exact k.flagsImeKept.trans (.of_eq rfl rfl rfl)

theorem flagsImeKept_pop16 {w : Word} {s t : State} (h : pop16 s = .ok (w, t)) : FlagsImeKept s t := by
  obtain ⟨-, -, rfl⟩ := pop16_ok h
  exact .of_eq rfl rfl rfl

/-- One read, then a change of the state that the byte decides. -/
theorem flagsImeKept_read {x : Except Fault Byte} {g : Byte → State} {s t : State} (h : (x >>= fun v => .ok (g v)) = .ok t)
    (k : ∀ v, FlagsImeKept s (g v)) : FlagsImeKept s t := by
  obtain ⟨v, -, h⟩ := bind_ok h
  rw [← Except.ok.inj h]
  exact k v

/-- A read, a computation and one write back. -/
theorem flagsImeKept_readWrite {v : Loc8} {s t : State} {f : Byte → Byte} (h : (readLoc v s >>= fun x => writeLoc v (f x) s) = .ok t) :
    FlagsImeKept s t := by
  obtain ⟨x, -, h⟩ := bind_ok h
  exact flagsImeKept_writeLoc h

/-- A read, a computation, one write back and the flags. -/
theorem flagsImeKept_readWriteFlags {v : Loc8} {s t : State} {f : Byte → Alu}
    (h : (readLoc v s >>= fun x => writeLoc v (f x).val s >>= fun u => .ok (setAluFlags (f x) u)) = .ok t) : FlagsImeKept s t := by
  obtain ⟨x, -, h⟩ := bind_ok h
  obtain ⟨u, hu, h⟩ := bind_ok h
  rw [← Except.ok.inj h]
  exact (flagsImeKept_writeLoc hu).trans (flagsImeKept_setAluFlags ..)

theorem flagsImeKept_loadAAt {a : Word} {s t : State} (h : loadAAt a s = .ok t) : FlagsImeKept s t :=
  flagsImeKept_read h fun v => flagsImeKept_setReg .a v s

theorem flagsImeKept_loadAAtPtr {p : Pointer} {s t : State} (h : loadAAtPtr p s = .ok t) : FlagsImeKept s t := by
  obtain ⟨u, hu, h⟩ := bind_ok h
  rw [← Except.ok.inj h]
  exact (flagsImeKept_loadAAt hu).trans (flagsImeKept_pointerStep ..)

theorem flagsImeKept_storeAAtPtr {p : Pointer} {s t : State} (h : storeAAtPtr p s = .ok t) : FlagsImeKept s t := by
  obtain ⟨u, hu, h⟩ := bind_ok h
  rw [← Except.ok.inj h]
  exact (flagsImeKept_memWrite hu).trans (flagsImeKept_pointerStep ..)

theorem flagsImeKept_storeSp {nn : Word} {s t : State} (h : storeSp nn s = .ok t) : FlagsImeKept s t := by
  obtain ⟨u, hu, h⟩ := bind_ok h
  exact (flagsImeKept_memWrite hu).trans (flagsImeKept_memWrite h)

theorem flagsImeKept_popPair {p : StackPair} {s t : State} (h : popPair p s = .ok t) : FlagsImeKept s t := by
  obtain ⟨⟨w, u⟩, hw, h⟩ := bind_ok h
  rw [← Except.ok.inj h]
  exact (flagsImeKept_pop16 hw).trans (flagsImeKept_setStackPair ..)

/-! ### Control transfer -/

theorem flagsImeKept_call {nn : Word} {s t : State} (h : call nn s = .ok t) : FlagsImeKept s t := by
  obtain ⟨u, hu, h⟩ := bind_ok h
  rw [← Except.ok.inj h]
  exact (flagsImeKept_push16 hu).trans (.of_eq rfl rfl rfl)

theorem flagsImeKept_ret {s t : State} (h : ret s = .ok t) : FlagsImeKept s t := by
  obtain ⟨⟨w, u⟩, hw, h⟩ := bind_ok h
  rw [← Except.ok.inj h]
  exact (flagsImeKept_pop16 hw).trans (.of_eq rfl rfl rfl)

/-- A conditional jump. -/
theorem flagsImeKept_jump {b c : Bool} {w : Word} {s t : State}
    (h : (.ok (b, if b then setPc w s else s) : Except Fault (Bool × State)) = .ok (c, t)) : FlagsImeKept s t := by
  rw [← (taken_ok h).2]
  split <;> exact .of_eq rfl rfl rfl

/-- A conditional operation: taken, it is the operation; not taken, nothing. -/
theorem flagsImeKept_conditional {taken b : Bool} {x : Except Fault State} {s t : State}
    (h : (if taken then x >>= fun u => .ok (true, u) else .ok (false, s)) = .ok (b, t)) (k : ∀ u, x = .ok u → FlagsImeKept s u) :
    FlagsImeKept s t := by
  split at h
  · obtain ⟨u, hu, h⟩ := bind_ok h
    rw [← (taken_ok h).2]
    exact k u hu
  · rw [← (taken_ok h).2]
    exact .refl s

/-! ### Every instruction -/

theorem flagsImeKept_finish {n : Nat} {r : Except Fault State} {s t : State} (h : finish n r = .next t)
    (k : ∀ u, r = .ok u → FlagsImeKept s u) : FlagsImeKept s t := by
  obtain ⟨u, hu, rfl⟩ := finish_next h
  exact (k u hu).trans (.of_eq rfl rfl rfl)

theorem flagsImeKept_finishIf {n m : Nat} {r : Except Fault (Bool × State)} {s t : State} (h : finishIf n m r = .next t)
    (k : ∀ b u, r = .ok (b, u) → FlagsImeKept s u) : FlagsImeKept s t := by
  obtain ⟨b, u, hu, rfl⟩ := finishIf_next h
  exact (k b u hu).trans (.of_eq rfl rfl rfl)

/-- An operation that cannot fail. -/
theorem flagsImeKept_pure {n : Nat} {s t u : State} (h : finish n (.ok u) = .next t) (k : FlagsImeKept s u) : FlagsImeKept s t := by
  rw [← Host.Outcome.next.inj h]
  exact k.trans (.of_eq rfl rfl rfl)

/-- Every form but `EI`, `DI`, `RETI` and `PREFIX_CB`. -/
theorem runForm_flagsImeKept {f : Form} {s t : State} (hw : writesIme f = false) (hp : ∀ op2, f ≠ .prefixCb op2) (h : runForm f s = .next t) :
    FlagsImeKept s t := by
  cases f with
  | ei | di | reti => cases hw
  | prefixCb op2 => exact absurd rfl (hp op2)
  | undefined u =>
    simp only [runForm, undefinedOp] at h
    split at h
    · cases h
    · exact flagsImeKept_pure h (.refl s)
  | nop | stop | jr | halt | jpHl | ldSpHl | jpNn => exact flagsImeKept_pure h (.of_eq rfl rfl rfl)
  | jrCc cc e => exact flagsImeKept_finishIf h fun b u hu => flagsImeKept_jump hu
  | jpCc cc nn => exact flagsImeKept_finishIf h fun b u hu => flagsImeKept_jump hu
  | callCc cc nn => exact flagsImeKept_finishIf h fun b u hu => flagsImeKept_conditional hu fun v => flagsImeKept_call
  | retCc cc => exact flagsImeKept_finishIf h fun b u hu => flagsImeKept_conditional hu fun v => flagsImeKept_ret
  | callNn | rst => exact flagsImeKept_finish h fun u => flagsImeKept_call
  | ret => exact flagsImeKept_finish h fun u => flagsImeKept_ret
  | push p => exact flagsImeKept_finish h fun u => flagsImeKept_push16
  | pop p => exact flagsImeKept_finish h fun u => flagsImeKept_popPair
  | ldReg => exact flagsImeKept_pure h (flagsImeKept_setReg ..)
  | ldPairNn | incPair | decPair => exact flagsImeKept_pure h (flagsImeKept_setPair ..)
  | scf | ccf => exact flagsImeKept_pure h (flagsImeKept_setFlags ..)
  | cpl | daa | accRot => exact flagsImeKept_pure h ((flagsImeKept_setReg ..).trans (flagsImeKept_setFlags ..))
  | addHlPair | ldHlSpE => exact flagsImeKept_pure h ((flagsImeKept_setPair .hl ..).trans (flagsImeKept_setFlags ..))
  | addSpE => exact flagsImeKept_pure h ((flagsImeKept_setPair .sp ..).trans (flagsImeKept_setFlags ..))
  | aluN op n => exact flagsImeKept_pure h (flagsImeKept_aluOn ..)
  | alu op v => exact flagsImeKept_finish h fun u hu => flagsImeKept_read hu fun x => flagsImeKept_aluOn op x s
  | bit b v => exact flagsImeKept_finish h fun u hu => flagsImeKept_read hu fun x => flagsImeKept_setFlags ..
  | ldFromHL dst => exact flagsImeKept_finish h fun u hu => flagsImeKept_read hu fun x => flagsImeKept_setReg dst x s
  | ldAAtNn | ldhAAtN | ldhAAtC => exact flagsImeKept_finish h fun u => flagsImeKept_loadAAt
  | ldAAtPtr p => exact flagsImeKept_finish h fun u => flagsImeKept_loadAAtPtr
  | ldN => exact flagsImeKept_finish h fun u => flagsImeKept_writeLoc
  | ldToHL | ldhAtNA | ldhAtCA | ldAtNnA => exact flagsImeKept_finish h fun u => flagsImeKept_memWrite
  | ldAtPtrA p => exact flagsImeKept_finish h fun u => flagsImeKept_storeAAtPtr
  | ldAtNnSp nn => exact flagsImeKept_finish h fun u => flagsImeKept_storeSp
  | inc v => exact flagsImeKept_finish h fun u hu => flagsImeKept_readWriteFlags (f := fun x => incByte x (cf s)) hu
  | dec v => exact flagsImeKept_finish h fun u hu => flagsImeKept_readWriteFlags (f := fun x => decByte x (cf s)) hu
  | rot o v => exact flagsImeKept_finish h fun u hu => flagsImeKept_readWriteFlags (f := fun x => rotCompute o x (cf s)) hu
  | res b v =>
    exact flagsImeKept_finish h fun u hu => flagsImeKept_readWrite (f := fun x => x &&& (0xFF ^^^ BitVec.ofNat 8 (2 ^ threeVal b))) hu
  | set b v => exact flagsImeKept_finish h fun u hu => flagsImeKept_readWrite (f := fun x => x ||| BitVec.ofNat 8 (2 ^ threeVal b)) hu

/-- No extended instruction is `EI`, `DI`, `RETI` or `PREFIX_CB`. -/
theorem decodeExtended_plain (op2 : Byte) : writesIme (decodeExtended op2) = false ∧ ∀ b, decodeExtended op2 ≠ .prefixCb b := by
  unfold decodeExtended
  split <;> exact ⟨rfl, fun _ => nofun⟩

/-- Every instruction but `EI`, `DI` and `RETI`, when it completes. -/
theorem exec_flagsImeKept {f : Form} {s t : State} (hw : writesIme f = false) (h : exec f.toInstr s = .next t) : FlagsImeKept s t := by
  rw [exec_toInstr] at h
  by_cases hp : ∃ op2, f = .prefixCb op2
  · obtain ⟨op2, rfl⟩ := hp
    obtain ⟨quiet, noPrefix⟩ := decodeExtended_plain op2
    have hx : runForm (decodeExtended op2) s = .next t := by
      rw [← extendedOp_eq]
      exact h
    exact runForm_flagsImeKept quiet noPrefix hx
  · exact runForm_flagsImeKept hw (fun op2 e => hp ⟨op2, e⟩) h

theorem writesIme_cases {f : Form} (h : writesIme f = true) : f = .ei ∨ f = .di ∨ f = .reti := by
  cases f with
  | ei => exact .inl rfl
  | di => exact .inr (.inl rfl)
  | reti => exact .inr (.inr rfl)
  | _ => cases h

/-! ### The zero nibble of `F` -/

/-- `EI`, `DI` and `RETI` leave `F`. -/
theorem exec_writesIme_cpu_f {f : Form} {s t : State} (hw : writesIme f = true) (h : exec f.toInstr s = .next t) : t.cpu.f = s.cpu.f := by
  rw [exec_toInstr] at h
  rcases writesIme_cases hw with rfl | rfl | rfl <;> obtain ⟨u, hu, rfl⟩ := finish_next h
  · unfold eiOp at hu
    split at hu <;> rw [← Except.ok.inj hu]
  · unfold diOp at hu
    split at hu <;> rw [← Except.ok.inj hu]
  · obtain ⟨⟨w, v⟩, hv, hu⟩ := bind_ok hu
    obtain ⟨-, -, rfl⟩ := pop16_ok hv
    rw [← Except.ok.inj hu]
    rfl

/-- No instruction makes the low nibble of `F` non-zero. -/
theorem flagsOk_exec {i : Instr} {s t : State} (hs : FlagsOk s) (h : exec i s = .next t) : FlagsOk t := by
  rw [← Instr.form_toInstr i] at h
  cases hw : writesIme i.form with
  | false => exact (exec_flagsImeKept hw h).flags hs
  | true => exact flagsOk_congr hs (exec_writesIme_cpu_f hw h)

theorem flagsOk_atFetch {s : State} (hs : FlagsOk s) : FlagsOk (latchIme (hostPhase s)) := by
  obtain ⟨k, -⟩ := entry_kept s
  exact flagsOk_congr hs (congrArg Cpu.f k.cpu :)

/-- A dispatch leaves `F`. -/
theorem takeInterrupt_cpu_f {i : Nat} {s t : State} (h : takeInterrupt i s = .ok t) : t.cpu.f = s.cpu.f := by
  obtain ⟨u, hu, rfl⟩ := takeInterrupt_ok h
  obtain ⟨s1, s2, -, -, k, rfl⟩ := push16_ok hu
  exact (congrArg Cpu.f k.cpu :)

/-- The timer, the pixel unit and the interrupt controller leave `F`. -/
theorem devices_cpu_f {s t : State} (h : devices s = .ok t) : t.cpu.f = s.cpu.f := by
  obtain ⟨u, k, -, hr⟩ := devices_ok h
  rw [← k.cpu]
  rcases resolve_ok hr with rfl | ⟨-, -, rfl⟩ | ⟨-, i, v, -, -, hv, rfl⟩
  · rfl
  · rfl
  · obtain ⟨c, -⟩ := consume_kept u.params.cycInt v
    rw [c.cpu, takeInterrupt_cpu_f hv]

/-- No step makes the low nibble of `F` non-zero. -/
theorem flagsOk_step {s t : State} (hs : FlagsOk s) (h : step s = .next t) : FlagsOk t := by
  have entry := flagsOk_atFetch hs
  rcases step_next h with ⟨-, hd⟩ | ⟨-, i, s2, u, hf, he, hd⟩
  · exact flagsOk_congr entry (by rw [devices_cpu_f hd, idle_cpu])
  · obtain ⟨op, b1, b2, -, -, e, -, -⟩ := fetch_ok hf
    have fetched : FlagsOk s2 := flagsOk_congr entry (by rw [e, setPc_cpu_f])
    exact flagsOk_congr (flagsOk_exec fetched he) (devices_cpu_f hd)

/-- Settles O13: the layout is `packFlags`, and each part of a step either leaves `F` or writes it with a zero low nibble (`FlagsImeKept`). -/
theorem flagRegister : Obligations.FlagRegister := by
  refine ⟨rfl, fun z n h c s => ?_, fun s => ⟨rfl, rfl, rfl, rfl⟩, fun i s t hs h => flagsOk_exec hs h, fun s t hs h => flagsOk_step hs h⟩
  exact setFlags_flags z n h c s

/-! ### What changes `IME` -/

/-- A read does not depend on `IME`. -/
theorem memRead_withIme (s : State) (b : Bool) (a : Word) : memRead a { s with ints := { s.ints with ime := b } } = memRead a s :=
  memRead_congr a rfl rfl rfl rfl rfl rfl rfl rfl

/-- The push of a dispatch is a bus access, so `IME` stays as `acknowledge` left it. -/
theorem takeInterrupt_ints_ime {i : Nat} {s t : State} (h : takeInterrupt i s = .ok t) : t.ints.ime = false := by
  obtain ⟨u, hu, rfl⟩ := takeInterrupt_ok h
  exact (flagsImeKept_push16 hu).ime

/-- Settles O48: no bus access reaches `IME` (`BusKept`, `memRead_congr`), and of the instructions only those of `writesIme` change it. -/
theorem imeChangedOnlyBy : Obligations.ImeChangedOnlyBy := by
  refine ⟨fun a v s t h => (memWrite_kept h).ime, memRead_withIme, fun f s t hei hdi hreti h => ?_, fun i s t h => takeInterrupt_ints_ime h⟩
  cases hw : writesIme f with
  | false =>
    have k := exec_flagsImeKept hw h
    exact ⟨k.ime, k.latch⟩
  | true =>
    rcases writesIme_cases hw with rfl | rfl | rfl
    · exact absurd rfl hei
    · exact absurd rfl hdi
    · exact absurd rfl hreti

end Sys2Proof.Machine

/-! ## MBC1 control writes (20_memory.md R74 to R76, R78) -/

namespace Sys2Proof.Machine

/-! ### The operation a control write is, by its address -/

/-- R74. -/
theorem mbc1Write_enable {p : Params} {m : Mbc1} {a : Word} {v : Byte} (h : a.toNat < 0x2000) :
    mbc1Write p m a v = { m with ramEnabled := decide (v.toNat % 16 = 0xA) } := by
  rw [mbc1Write, if_pos h, enable_nibble]

/-- R75. -/
theorem mbc1Write_low {p : Params} {m : Mbc1} {a : Word} {v : Byte} (h : 0x2000 ≤ a.toNat) (h' : a.toNat < 0x4000) :
    mbc1Write p m a v = mbc1SetLow m v := by
  rw [mbc1Write, if_neg (by omega), if_pos h']

/-- R76. -/
theorem mbc1Write_high {p : Params} {m : Mbc1} {a : Word} {v : Byte} (h : 0x4000 ≤ a.toNat) (h' : a.toNat < 0x6000) :
    mbc1Write p m a v = mbc1SetHigh m v := by
  rw [mbc1Write, if_neg (by omega), if_neg (by omega), if_pos h']

/-! ### The bank numbers they select -/

/-- R75 with the remap of R78, as numbers. -/
theorem mbc1SetLow_eq (m : Mbc1) (v : Byte) :
    mbc1SetLow m v =
      let bank := m.romBank.toNat / 32 * 32 + v.toNat % 32
      { m with romBank := BitVec.ofNat 7 (if bank % 32 = 0 then bank + 1 else bank) } := by
  rw [mbc1SetLow, mbc1Remap_eq, bank_low_toNat]

/-- R76 in the ROM-banking mode with the remap of R78, as numbers. -/
theorem mbc1SetHigh_romBanking {m : Mbc1} (v : Byte) (h : m.romBankingMode = true) :
    mbc1SetHigh m v =
      let bank := m.romBank.toNat % 32 + v.toNat % 4 * 32
      { m with romBank := BitVec.ofNat 7 (if bank % 32 = 0 then bank + 1 else bank) } := by
  rw [mbc1SetHigh, if_pos h, mbc1Remap_eq, bank_high_toNat]

/-- R76 in the RAM-banking mode. -/
theorem mbc1SetHigh_ramBanking {m : Mbc1} (v : Byte) (h : m.romBankingMode = false) :
    mbc1SetHigh m v = { m with ramBank := BitVec.ofNat 2 v.toNat } := by
  rw [mbc1SetHigh, h, if_neg Bool.false_ne_true, BitVec.ofNat_toNat]

/-- Settles O20: the address selects the operation (`mbc1Write_enable`, `mbc1Write_low`, `mbc1Write_high`), and each bank number it computes is the
spec's by arithmetic on the two parts of the bank (`bank_low_toNat`, `bank_high_toNat`) and the remap (`mbc1Remap_eq`). -/
theorem mbc1Control : Obligations.Mbc1Control := by
  intro p img m a v
  refine ⟨mbc1Write p m a v, rfl, mbc1Write_enable, fun h h' => ?_, fun h h' mode => ?_, fun h h' mode => ?_⟩
  · exact (mbc1Write_low h h').trans (mbc1SetLow_eq m v)
  · exact (mbc1Write_high h h').trans (mbc1SetHigh_romBanking v mode)
  · exact (mbc1Write_high h h').trans (mbc1SetHigh_ramBanking v mode)

end Sys2Proof.Machine

/-! ## The decoder and the encoder (30_encoding.md R100 to R112, R118) -/

namespace Sys2Proof

/-! ### The base table -/

/-- The bytes of a row of the base table: they are its encoding, they give its form back, and the first byte alone gives their number. A byte the
row does not have is 0. -/
structure BaseBytes (pfx : Byte) (f : Form) (op b1 b2 : Byte) : Prop where
  bytes : encode pfx f.toInstr = [op, b1, b2].take f.length
  form : decodeBase op b1 (cat b2 b1) = f
  length : (decodeBase op 0 0).length = f.length
  absent1 : f.length < 2 → b1 = 0
  absent2 : f.length < 3 → b2 = 0

theorem baseBytes_one {pfx : Byte} {f : Form} {op : Byte} (hl : f.length = 1) (e : encode pfx f.toInstr = [op]) (d : decodeBase op 0 0 = f) :
    ∃ op b1 b2, BaseBytes pfx f op b1 b2 :=
  ⟨op, 0, 0, by rw [hl, e]; rfl, d, by rw [d], fun _ => rfl, fun _ => rfl⟩

theorem baseBytes_two {pfx : Byte} {f : Form} {op n : Byte} (hl : f.length = 2) (e : encode pfx f.toInstr = [op, n])
    (d : decodeBase op n (cat 0 n) = f) (l : (decodeBase op 0 0).length = 2) : ∃ op b1 b2, BaseBytes pfx f op b1 b2 :=
  ⟨op, n, 0, by rw [hl, e]; rfl, d, by rw [hl, l], fun h => by omega, fun _ => rfl⟩

theorem baseBytes_three {pfx : Byte} {f : Form} {op lo hi : Byte} (hl : f.length = 3) (e : encode pfx f.toInstr = [op, lo, hi])
    (d : decodeBase op lo (cat hi lo) = f) (l : (decodeBase op 0 0).length = 3) : ∃ op b1 b2, BaseBytes pfx f op b1 b2 :=
  ⟨op, lo, hi, by rw [hl, e]; rfl, d, by rw [hl, l], fun h => by omega, fun h => by omega⟩

/-- Every form but the extended ones is a row of the base table. -/
theorem exists_baseBytes (pfx : Byte) (f : Form) (h : f.extended = false) : ∃ op b1 b2, BaseBytes pfx f op b1 b2 := by
  have word (nn : Word) : cat (hiByte nn) (loByte nn) = nn := cat_hiByte_loByte nn
  cases f with
  | rot | bit | res | set => cases h
  | ldAtNnSp nn => exact baseBytes_three rfl rfl (congrArg Form.ldAtNnSp (word nn)) rfl
  | ldAtNnA nn => exact baseBytes_three rfl rfl (congrArg Form.ldAtNnA (word nn)) rfl
  | ldAAtNn nn => exact baseBytes_three rfl rfl (congrArg Form.ldAAtNn (word nn)) rfl
  | jpNn nn => exact baseBytes_three rfl rfl (congrArg Form.jpNn (word nn)) rfl
  | callNn nn => exact baseBytes_three rfl rfl (congrArg Form.callNn (word nn)) rfl
  | ldPairNn p nn => cases p <;> exact baseBytes_three rfl rfl (congrArg (Form.ldPairNn _) (word nn)) rfl
  | jpCc cc nn => cases cc <;> exact baseBytes_three rfl rfl (congrArg (Form.jpCc _) (word nn)) rfl
  | callCc cc nn => cases cc <;> exact baseBytes_three rfl rfl (congrArg (Form.callCc _) (word nn)) rfl
  | jrCc cc e => cases cc <;> exact baseBytes_two rfl rfl rfl rfl
  | ldN v n => rcases v with (_ | _ | _ | _ | _ | _ | _) | _ <;> exact baseBytes_two rfl rfl rfl rfl
  | aluN op n => cases op <;> exact baseBytes_two rfl rfl rfl rfl
  | stop | jr | ldhAtNA | addSpE | ldhAAtN | ldHlSpE | prefixCb => exact baseBytes_two rfl rfl rfl rfl
  | addHlPair p => cases p <;> exact baseBytes_one rfl rfl rfl
  | ldAtPtrA p => cases p <;> exact baseBytes_one rfl rfl rfl
  | ldAAtPtr p => cases p <;> exact baseBytes_one rfl rfl rfl
  | incPair p => cases p <;> exact baseBytes_one rfl rfl rfl
  | decPair p => cases p <;> exact baseBytes_one rfl rfl rfl
  | inc v => rcases v with (_ | _ | _ | _ | _ | _ | _) | _ <;> exact baseBytes_one rfl rfl rfl
  | dec v => rcases v with (_ | _ | _ | _ | _ | _ | _) | _ <;> exact baseBytes_one rfl rfl rfl
  | accRot o => cases o <;> exact baseBytes_one rfl rfl rfl
  | ldReg dst src => cases dst <;> cases src <;> exact baseBytes_one rfl rfl rfl
  | ldFromHL dst => cases dst <;> exact baseBytes_one rfl rfl rfl
  | ldToHL src => cases src <;> exact baseBytes_one rfl rfl rfl
  | alu op v => rcases v with (_ | _ | _ | _ | _ | _ | _) | _ <;> cases op <;> exact baseBytes_one rfl rfl rfl
  | retCc cc => cases cc <;> exact baseBytes_one rfl rfl rfl
  | pop p => cases p <;> exact baseBytes_one rfl rfl rfl
  | push p => cases p <;> exact baseBytes_one rfl rfl rfl
  | rst t => cases t <;> exact baseBytes_one rfl rfl rfl
  | undefined u => cases u <;> exact baseBytes_one rfl rfl rfl
  | nop | daa | cpl | scf | ccf | halt | ret | reti | jpHl | ldSpHl | ldhAtCA | ldhAAtC | di | ei => exact baseBytes_one rfl rfl rfl

/-- Every byte of the base table: the form it names with its operands encodes to it and them. -/
theorem encode_decodeBase (pfx op : Byte) (nn : Word) :
    encode pfx (decodeBase op (loByte nn) nn).toInstr = [op, loByte nn, hiByte nn].take (decodeBase op 0 0).length := by
  have row (k : Nat) (hk : k < 256) : encode pfx (decodeBase (BitVec.ofNat 8 k) (loByte nn) nn).toInstr =
      [BitVec.ofNat 8 k, loByte nn, hiByte nn].take (decodeBase (BitVec.ofNat 8 k) 0 0).length := by
    interval_cases k <;> rfl
  simpa using row op.toNat op.isLt

/-! ### The extended table -/

theorem decodeExtended_extended (op2 : Byte) : (decodeExtended op2).extended = true := by
  unfold decodeExtended
  split <;> rfl

/-- Every byte of the extended table: the form it names encodes to it, after `PREFIX`. -/
theorem encode_decodeExtended_pfx (pfx op2 : Byte) : encode pfx (decodeExtended op2).toInstr = [pfx, op2] := by
  have row (k : Nat) (hk : k < 256) : encode pfx (decodeExtended (BitVec.ofNat 8 k)).toInstr = [pfx, BitVec.ofNat 8 k] := by
    interval_cases k <;> rfl
  simpa using row op2.toNat op2.isLt

/-- Every extended form is a byte's of the extended table. -/
theorem exists_decodeExtended (f : Form) (h : f.extended = true) : ∃ op2, decodeExtended op2 = f := by
  cases f with
  | rot o v =>
    refine ⟨Machine.opcode (Machine.rotIndex o * 8 + Machine.locIndex v), ?_⟩
    rcases v with (_ | _ | _ | _ | _ | _ | _) | _ <;> cases o <;> rfl
  | bit b v =>
    refine ⟨Machine.opcode (0x40 + Machine.threeVal b * 8 + Machine.locIndex v), ?_⟩
    rcases v with (_ | _ | _ | _ | _ | _ | _) | _ <;> cases b <;> rfl
  | res b v =>
    refine ⟨Machine.opcode (0x80 + Machine.threeVal b * 8 + Machine.locIndex v), ?_⟩
    rcases v with (_ | _ | _ | _ | _ | _ | _) | _ <;> cases b <;> rfl
  | set b v =>
    refine ⟨Machine.opcode (0xC0 + Machine.threeVal b * 8 + Machine.locIndex v), ?_⟩
    rcases v with (_ | _ | _ | _ | _ | _ | _) | _ <;> cases b <;> rfl
  | _ => cases h

/-! ### Both tables -/

theorem decodeInstr_prefix (pfx b1 b2 : Byte) : decodeInstr pfx pfx b1 b2 = (decodeExtended b1).toInstr := by
  rw [decodeInstr, decodeForm, if_pos rfl]

theorem decodeInstr_base {pfx op : Byte} (h : op ≠ pfx) (b1 b2 : Byte) :
    decodeInstr pfx op b1 b2 = (decodeBase op b1 (cat b2 b1)).toInstr := by
  rw [decodeInstr, decodeForm, if_neg h]

theorem lengthOf_prefix (pfx : Byte) : lengthOf pfx pfx = 2 := if_pos rfl

theorem lengthOf_base {pfx op : Byte} (h : op ≠ pfx) : lengthOf pfx op = (decodeBase op 0 0).length := if_neg h

theorem Form.length_cases (f : Form) : f.length = 1 ∨ f.length = 2 ∨ f.length = 3 := by
  unfold Form.length
  split <;> decide

theorem lengthOf_cases (pfx op : Byte) : lengthOf pfx op = 1 ∨ lengthOf pfx op = 2 ∨ lengthOf pfx op = 3 := by
  unfold lengthOf
  split
  · exact .inr (.inl rfl)
  · exact Form.length_cases _

/-- The decoder on as many bytes as the first calls for. -/
theorem decode_take {pfx op b1 b2 : Byte} (h1 : lengthOf pfx op < 2 → b1 = 0) (h2 : lengthOf pfx op < 3 → b2 = 0) (rest : List Byte) :
    decode pfx ([op, b1, b2].take (lengthOf pfx op) ++ rest) = .ok (decodeInstr pfx op b1 b2, rest) := by
  rcases lengthOf_cases pfx op with hl | hl | hl
  · rw [h1 (by omega), h2 (by omega)]
    simp [decode, hl]
  · rw [h2 (by omega)]
    simp [decode, hl]
  · simp [decode, hl]

/-- The bytes an instruction is decoded from are its encoding. -/
theorem encode_decodeInstr (pfx op b1 b2 : Byte) : encode pfx (decodeInstr pfx op b1 b2) = [op, b1, b2].take (lengthOf pfx op) := by
  by_cases h : op = pfx
  · subst h
    rw [decodeInstr_prefix, encode_decodeExtended_pfx, lengthOf_prefix]
    rfl
  · rw [decodeInstr_base h, lengthOf_base h]
    simpa using encode_decodeBase pfx op (cat b2 b1)

/-! ### Which instructions have an encoding -/

/-- A row of the extended table has an encoding. -/
theorem encodable_extended (pfx : Byte) {f : Form} (h : f.extended = true) : encodable pfx f.toInstr = true := by
  rw [encodable, Form.toInstr_form, h, Bool.true_or]

/-- A row of the base table has one unless its first byte is `PREFIX`. -/
theorem encodable_base {pfx op b1 b2 : Byte} {f : Form} (h : f.extended = false) (hb : BaseBytes pfx f op b1 b2) :
    encodable pfx f.toInstr = true ↔ op ≠ pfx := by
  have head : (encode pfx f.toInstr).head? = some op := by
    rw [hb.bytes]
    rcases Form.length_cases f with hl | hl | hl <;> rw [hl] <;> rfl
  simp [encodable, Form.toInstr_form, h, head]

theorem encodable_decodeInstr (pfx op b1 b2 : Byte) : encodable pfx (decodeInstr pfx op b1 b2) = true := by
  by_cases h : op = pfx
  · subst h
    rw [decodeInstr_prefix]
    exact encodable_extended op (decodeExtended_extended b1)
  · have head : (encode pfx (decodeInstr pfx op b1 b2)).head? = some op := by
      rw [encode_decodeInstr]
      rcases lengthOf_cases pfx op with hl | hl | hl <;> rw [hl] <;> rfl
    simp [encodable, head, h]

/-- With the default `PREFIX` the instructions that have an encoding are the well-formed ones. -/
theorem wellFormed_eq_encodable (i : Instr) : WellFormed i = encodable 0xCB i := by
  cases i <;> rfl

/-- Settles O2: every form is a row of the base table (`exists_baseBytes`) or of the extended table (`exists_decodeExtended`), and the decoder reads the
row's bytes back (`decode_take`). -/
theorem decodeEncode : Obligations.DecodeEncode := by
  refine ⟨wellFormed_eq_encodable, fun pfx i rest he => ?_⟩
  rw [← Instr.form_toInstr i] at he ⊢
  cases hx : i.form.extended with
  | true =>
    obtain ⟨op2, e⟩ := exists_decodeExtended i.form hx
    rw [← e, encode_decodeExtended_pfx, ← decodeInstr_prefix pfx op2 0]
    simpa [lengthOf_prefix] using decode_take (pfx := pfx) (op := pfx) (b1 := op2) (b2 := 0) (by simp [lengthOf_prefix]) (fun _ => rfl) rest
  | false =>
    obtain ⟨op, b1, b2, hb⟩ := exists_baseBytes pfx i.form hx
    have hop := (encodable_base hx hb).mp he
    have hl : lengthOf pfx op = i.form.length := (lengthOf_base hop).trans hb.length
    have back : decodeInstr pfx op b1 b2 = i.form.toInstr := by rw [decodeInstr_base hop, hb.form]
    rw [hb.bytes, ← hl, ← back]
    exact decode_take (by rw [hl]; exact hb.absent1) (by rw [hl]; exact hb.absent2) rest

/-! ### What the decoder answers -/

/-- A decoded instruction's bytes and those left over are the input; a byte the instruction does not have counts as 0. -/
theorem decode_ok {pfx : Byte} {bytes rest : List Byte} {i : Instr} (h : decode pfx bytes = .ok (i, rest)) :
    ∃ op b1 b2, i = decodeInstr pfx op b1 b2 ∧ bytes = [op, b1, b2].take (lengthOf pfx op) ++ rest ∧
      (lengthOf pfx op < 2 → b1 = 0) ∧ (lengthOf pfx op < 3 → b2 = 0) := by
  cases bytes with
  | nil => cases h
  | cons op tail =>
    rcases lengthOf_cases pfx op with hl | hl | hl
    · simp only [decode, hl] at h
      cases h
      exact ⟨op, 0, 0, rfl, by rw [hl]; rfl, fun _ => rfl, fun _ => rfl⟩
    · rcases tail with _ | ⟨b1, tail⟩
      · simp [decode, hl] at h
      · simp only [decode, hl] at h
        cases h
        exact ⟨op, b1, 0, rfl, by rw [hl]; rfl, fun _ => by omega, fun _ => rfl⟩
    · rcases tail with _ | ⟨b1, _ | ⟨b2, tail⟩⟩
      · simp [decode, hl] at h
      · simp [decode, hl] at h
      · simp only [decode, hl] at h
        cases h
        exact ⟨op, b1, b2, rfl, by rw [hl]; rfl, fun _ => by omega, fun _ => by omega⟩

/-- The decoder answers where the bytes are enough. -/
theorem decode_of_enough {pfx op : Byte} {tail : List Byte} (h : lengthOf pfx op ≤ tail.length + 1) :
    ∃ i rest, decode pfx (op :: tail) = .ok (i, rest) := by
  rcases lengthOf_cases pfx op with hl | hl | hl <;> rw [hl] at h
  · exact ⟨_, _, by simp only [decode, hl]; rfl⟩
  · rcases tail with _ | ⟨b1, tail⟩
    · simp at h
    · exact ⟨_, _, by simp only [decode, hl]; rfl⟩
  · rcases tail with _ | ⟨b1, _ | ⟨b2, tail⟩⟩
    · simp at h
    · simp at h
    · exact ⟨_, _, by simp only [decode, hl]; rfl⟩

/-- Settles O3: what the decoder answers is a row of a table and its bytes (`decode_ok`), and the row's encoding is those bytes
(`encode_decodeInstr`). -/
theorem decodeInverse : Obligations.DecodeInverse := by
  refine ⟨fun pfx bytes rest i h => ?_, fun pfx bytes => ⟨?_, ?_⟩⟩
  · obtain ⟨op, b1, b2, rfl, rfl, -, -⟩ := decode_ok h
    refine ⟨encodable_decodeInstr .., fun hp => ?_, by rw [encode_decodeInstr]⟩
    rw [wellFormed_eq_encodable, ← hp]
    exact encodable_decodeInstr ..
  · rintro ⟨i, rest, h⟩
    obtain ⟨op, b1, b2, -, e, -, -⟩ := decode_ok h
    rcases lengthOf_cases pfx op with hl | hl | hl <;> rw [hl] at e
    · exact ⟨op, rest, e, by omega⟩
    · exact ⟨op, b1 :: rest, e, by simp [hl]⟩
    · exact ⟨op, b1 :: b2 :: rest, e, by simp [hl]⟩
  · rintro ⟨op, tail, rfl, h⟩
    exact decode_of_enough h

end Sys2Proof

/-! ## The pixel unit's state machine and the rows it writes (60_exceptions.md R330 to R336, R340) -/

namespace Sys2Proof.Machine

/-! ### Entering a mode (R335) -/

theorem byte_add_one (b : Byte) : b + 1 = BitVec.ofNat 8 (b.toNat + 1) := by
  apply BitVec.eq_of_toNat_eq
  simp

/-- `STAT` with the mode's code in bits 1 and 0. -/
theorem statCode_toNat (stat : Byte) (m : Mode) : ((stat &&& 0xFC) ||| modeCode m).toNat = stat.toNat / 4 * 4 + (modeCode m).toNat := by
  cases m <;> decide +revert

/-- The mode's code leaves the four enable bits of `STAT`. -/
theorem statCode_enable (stat : Byte) (m : Mode) :
    ((stat &&& 0xFC) ||| modeCode m).getLsbD 3 = stat.getLsbD 3 ∧ ((stat &&& 0xFC) ||| modeCode m).getLsbD 4 = stat.getLsbD 4 ∧
      ((stat &&& 0xFC) ||| modeCode m).getLsbD 5 = stat.getLsbD 5 ∧ ((stat &&& 0xFC) ||| modeCode m).getLsbD 6 = stat.getLsbD 6 := by
  cases m <;> decide +revert

theorem coincidence_iff (p : PixelUnit) : coincidence p = true ↔ p.stat.getLsbD 6 = true ∧ p.ly = p.lyc := by
  simp [coincidence, bit_eq]

/-- The sources a mode's entry tests are those enabled before it. -/
theorem modeSource_setMode (m : Mode) (s : State) :
    (modeSource (setMode m s).ppu.stat m || coincidence (setMode m s).ppu) = true ↔
      (m = .hBlank ∧ s.ppu.stat.getLsbD 3 = true) ∨ (m = .vBlank ∧ s.ppu.stat.getLsbD 4 = true) ∨
        (m = .oamSearch ∧ s.ppu.stat.getLsbD 5 = true) ∨ (s.ppu.stat.getLsbD 6 = true ∧ s.ppu.ly = s.ppu.lyc) := by
  obtain ⟨e3, e4, e5, e6⟩ := statCode_enable s.ppu.stat m
  rw [Bool.or_eq_true, coincidence_iff, setMode_ppu_stat, setMode_ppu_ly, setMode_ppu_lyc, e6]
  cases m with
  | hBlank => simp only [modeSource, bit_eq, e3, true_and, reduceCtorEq, false_and, false_or]
  | vBlank => simp only [modeSource, bit_eq, e4, true_and, reduceCtorEq, false_and, false_or]
  | oamSearch => simp only [modeSource, bit_eq, e5, true_and, reduceCtorEq, false_and, false_or]
  | pixelTransfer => simp only [modeSource, Bool.false_eq_true, reduceCtorEq, false_and, false_or]

/-- Settles O52: the entry is `setMode`, and its test sees the enable bits as they were (`modeSource_setMode`). -/
theorem enterModeStat : Obligations.EnterModeStat := by
  intro s m
  have hp := enterMode_ppu m s
  refine ⟨⟨by rw [hp]; rfl, ?_⟩, fun h => ?_, fun h => ?_⟩
  · rw [hp, setMode_ppu_stat, statCode_toNat]
    cases m <;> rfl
  · rw [hp, enterMode]
    exact if_pos ((modeSource_setMode m s).mpr h)
  · rw [hp, enterMode]
    exact if_neg (mt (modeSource_setMode m s).mp h)

/-! ### The end of a mode (R330 to R334) -/

/-- `LY` reaches 144 after line 143. -/
theorem succ_eq_144_iff (b : Byte) : b + 1 = 144 ↔ b = 143 := by
  have h : (144 : Byte) = 143 + 1 := rfl
  rw [h, BitVec.add_left_inj]

/-- R331. -/
theorem endMode_oamSearch {s : State} (h : s.ppu.mode = .oamSearch) : endMode s = enterMode .pixelTransfer s := by rw [endMode, h]

/-- R332. -/
theorem endMode_pixelTransfer {s : State} (h : s.ppu.mode = .pixelTransfer) : endMode s = enterMode .hBlank (renderScanline s.ppu.ly.toNat s) := by
  rw [endMode, h, endPixelTransfer]

/-- R333 after line 143: `VBlank`, its interrupt, and the frame handed over. -/
theorem endMode_hBlank_last {s : State} (h : s.ppu.mode = .hBlank) (hl : s.ppu.ly = 143) :
    endMode s = { requestInterrupt 0 (enterMode .vBlank (setLy (s.ppu.ly + 1) s)) with handedFrame := some s.ppu.fb } := by
  have fb : (requestInterrupt 0 (enterMode .vBlank (setLy (s.ppu.ly + 1) s))).ppu.fb = s.ppu.fb := by
    rw [requestInterrupt_ppu, enterMode_ppu, setMode_ppu_fb, setLy_ppu_fb]
  have last : endHBlank s = handFrame (requestInterrupt 0 (enterMode .vBlank (setLy (s.ppu.ly + 1) s))) := if_pos ((succ_eq_144_iff _).mpr hl)
  rw [endMode, h]
  simp only [last, handFrame, fb]

/-- R333 after another line. -/
theorem endMode_hBlank_next {s : State} (h : s.ppu.mode = .hBlank) (hl : s.ppu.ly ≠ 143) :
    endMode s = enterMode .oamSearch (setLy (s.ppu.ly + 1) s) := by
  rw [endMode, h]
  exact if_neg (mt (succ_eq_144_iff _).mp hl)

/-- R334 before line 153. -/
theorem endMode_vBlank_next {s : State} (h : s.ppu.mode = .vBlank) (hl : s.ppu.ly.toNat < 153) : endMode s = setLy (s.ppu.ly + 1) s := by
  rw [endMode, h]
  exact if_neg (by omega)

/-- R334 from line 153 on. -/
theorem endMode_vBlank_last {s : State} (h : s.ppu.mode = .vBlank) (hl : 153 ≤ s.ppu.ly.toNat) : endMode s = enterMode .oamSearch (setLy 0 s) := by
  rw [endMode, h]
  exact if_pos (by omega)

/-- Settles O51: below the limit only the counter changes (`ppuExecute_within`), at it the mode ends (`ppuExecute_beyond`), as the rule of each mode
says. -/
theorem scanlineStateMachine : Obligations.ScanlineStateMachine := by
  intro s cycles
  refine ⟨⟨rfl, rfl, rfl, rfl⟩, ppuExecute_within, fun h => ?_⟩
  rw [ppuExecute_beyond h, ← byte_add_one]
  refine ⟨fun hm => ?_, fun hm => ?_, fun hm hl => ?_, fun hm hl => ?_, fun hm hl => ?_, fun hm hl => ?_⟩
  · exact endMode_oamSearch hm
  · exact endMode_pixelTransfer hm
  · exact endMode_hBlank_last hm hl
  · exact endMode_hBlank_next hm hl
  · exact endMode_vBlank_next hm hl
  · exact endMode_vBlank_last hm hl

/-! ### Rendering (R340) -/

theorem renderScanline_fb {line : Nat} (s : State) (h : line < 144) :
    (renderScanline line s).ppu.fb = s.ppu.fb.set line (spritesOnRow s line (backgroundRow s line)) := by
  rw [renderScanline, if_pos h]

theorem renderScanline_outside {line : Nat} (s : State) (h : 144 ≤ line) : renderScanline line s = s := if_neg (by omega)

/-- A rendered row has 160 pixels. -/
theorem renderedRow_length (s : State) (line : Nat) : (spritesOnRow s line (backgroundRow s line)).length = 160 := by
  rw [spritesOnRow_length, backgroundRow_length]

/-- Settles O56: the rendered line is one `List.set` of the frame buffer, of a row of 160 pixels (`renderedRow_length`). -/
theorem renderWritesOneRow : Obligations.RenderWritesOneRow := by
  intro s line
  refine ⟨renderScanline_outside s, renderScanline_eq line s, ?_, fun k hk => ?_, fun hl hb => ?_⟩
  · by_cases h : line < 144
    · rw [renderScanline_fb s h, List.length_set]
    · rw [renderScanline_outside s (by omega)]
  · by_cases h : line < 144
    · rw [renderScanline_fb s h, List.getElem?_set_ne (Ne.symm hk)]
    · rw [renderScanline_outside s (by omega)]
  · rw [renderScanline_row s line hl hb, renderedRow_length]

theorem frameOk_renderScanline {s : State} (line : Nat) (h : FrameOk s.ppu.fb) : FrameOk (renderScanline line s).ppu.fb := by
  by_cases hl : line < 144
  · rw [renderScanline_fb s hl]
    refine ⟨by rw [List.length_set, h.1], fun row hr => ?_⟩
    rcases List.mem_or_eq_of_mem_set hr with hr | rfl
    · exact h.2 row hr
    · exact renderedRow_length s line
  · rwa [renderScanline_outside s (by omega)]

/-! ### The position in the frame (R336) -/

/-- The cycle of a line at which a mode starts; `VBlank`'s lines are whole. -/
def modeStart (m : Mode) : Nat :=
  match m with
  | .oamSearch => 0
  | .pixelTransfer => 80
  | .hBlank => 252
  | .vBlank => 0

theorem framePosition_eq (p : PixelUnit) : framePosition p = p.ly.toNat * 456 + p.acc + modeStart p.mode := by
  unfold framePosition modeStart
  cases p.mode <;> rfl

/-- The last line of a mode. -/
def lastLine (m : Mode) : Nat := if m = .vBlank then 153 else 143

theorem lineOk_iff (p : PixelUnit) : LineOk p ↔ p.ly.toNat ≤ lastLine p.mode := by
  unfold LineOk lastLine
  split <;> rfl

/-- A mode entered in bounds. -/
theorem pixelUnitOk_enterMode {m : Mode} {s : State} (hl : s.ppu.ly.toNat ≤ lastLine m) (ha : s.ppu.acc < modeCycles m) (hf : FrameOk s.ppu.fb) :
    PixelUnitOk (enterMode m s).ppu ∧ framePosition (enterMode m s).ppu = s.ppu.ly.toNat * 456 + s.ppu.acc + modeStart m := by
  obtain ⟨-, -, -, em, el, ea, ef⟩ := enterMode_kept m s
  refine ⟨⟨(lineOk_iff _).mpr ?_, ?_, by rwa [ef]⟩, by rw [framePosition_eq, em, el, ea]⟩
  · rwa [em, el]
  · rwa [em, ea]

/-- The end of a mode with a remainder of fewer than 24 cycles: the next mode or line starts where this one ends. -/
theorem pixelUnitOk_endMode {s : State} (hl : LineOk s.ppu) (ha : s.ppu.acc < 24) (hf : FrameOk s.ppu.fb) :
    PixelUnitOk (endMode s).ppu ∧
      framePosition (endMode s).ppu % 70224 = (s.ppu.ly.toNat * 456 + modeStart s.ppu.mode + modeCycles s.ppu.mode + s.ppu.acc) % 70224 := by
  rw [lineOk_iff] at hl
  have short (m : Mode) : s.ppu.acc < modeCycles m := by cases m <;> simp only [modeCycles] <;> omega
  cases hm : s.ppu.mode with
  | oamSearch =>
    rw [hm] at hl
    obtain ⟨ok, pos⟩ := pixelUnitOk_enterMode (m := .pixelTransfer) hl (short _) hf
    rw [endMode_oamSearch hm]
    exact ⟨ok, by rw [pos]; simp only [modeStart, modeCycles]; omega⟩
  | pixelTransfer =>
    rw [hm] at hl
    have e := renderScanline_eq s.ppu.ly.toNat s
    have keep : (renderScanline s.ppu.ly.toNat s).ppu.ly = s.ppu.ly ∧ (renderScanline s.ppu.ly.toNat s).ppu.acc = s.ppu.acc := by
      rw [e]
      exact ⟨rfl, rfl⟩
    obtain ⟨ok, pos⟩ := pixelUnitOk_enterMode (m := .hBlank) (s := renderScanline s.ppu.ly.toNat s) (by rw [keep.1]; exact hl)
      (by rw [keep.2]; exact short _) (frameOk_renderScanline _ hf)
    rw [endMode_pixelTransfer hm]
    exact ⟨ok, by rw [pos, keep.1, keep.2]; simp only [modeStart, modeCycles]; omega⟩
  | hBlank =>
    have hl : s.ppu.ly.toNat ≤ 143 := by rwa [hm] at hl
    have next : (s.ppu.ly + 1).toNat = s.ppu.ly.toNat + 1 := by
      rw [byte_add_one, BitVec.toNat_ofNat]
      omega
    by_cases h143 : s.ppu.ly = 143
    · obtain ⟨ok, pos⟩ := pixelUnitOk_enterMode (m := .vBlank) (s := setLy (s.ppu.ly + 1) s)
        (by rw [setLy_ppu_ly, next]; simp only [lastLine, if_true]; omega) (short _) hf
      rw [endMode_hBlank_last hm h143]
      exact ⟨ok, by rw [requestInterrupt_ppu, pos, setLy_ppu_ly, next]; simp only [modeStart, modeCycles, setLy_ppu_acc]; omega⟩
    · have hne : s.ppu.ly.toNat ≠ 143 := fun e => h143 (BitVec.eq_of_toNat_eq e)
      obtain ⟨ok, pos⟩ := pixelUnitOk_enterMode (m := .oamSearch) (s := setLy (s.ppu.ly + 1) s)
        (by rw [setLy_ppu_ly, next]; show _ ≤ 143; omega) (short _) hf
      rw [endMode_hBlank_next hm h143]
      exact ⟨ok, by rw [pos, setLy_ppu_ly, next]; simp only [modeStart, modeCycles, setLy_ppu_acc]; omega⟩
  | vBlank =>
    have hl : s.ppu.ly.toNat ≤ 153 := by rwa [hm] at hl
    by_cases h153 : s.ppu.ly.toNat < 153
    · have next : (s.ppu.ly + 1).toNat = s.ppu.ly.toNat + 1 := by
        rw [byte_add_one, BitVec.toNat_ofNat]
        omega
      rw [endMode_vBlank_next hm h153]
      refine ⟨⟨(lineOk_iff _).mpr ?_, short _, hf⟩, ?_⟩
      · rw [setLy_ppu_mode, hm, setLy_ppu_ly, next]
        show _ ≤ 153
        omega
      · rw [framePosition_eq, setLy_ppu_mode, hm, setLy_ppu_ly, next, setLy_ppu_acc]
        simp only [modeStart, modeCycles]
        omega
    · obtain ⟨ok, pos⟩ := pixelUnitOk_enterMode (m := .oamSearch) (s := setLy 0 s) (Nat.zero_le _) (short _) hf
      rw [endMode_vBlank_last hm (by omega)]
      have zero : (0 : Byte).toNat = 0 := rfl
      exact ⟨ok, by rw [pos, setLy_ppu_ly, setLy_ppu_acc, zero]; simp only [modeStart, modeCycles]; omega⟩

/-- A call of at most 24 cycles keeps the pixel unit in bounds and moves its position on by them. -/
theorem pixelUnitOk_ppuExecute {s : State} {n : Nat} (h : PixelUnitOk s.ppu) (hn : n ≤ 24) :
    PixelUnitOk (ppuExecute n s).ppu ∧ framePosition (ppuExecute n s).ppu % 70224 = (framePosition s.ppu + n) % 70224 := by
  obtain ⟨hl, ha, hf⟩ := h
  by_cases hlim : s.ppu.acc + n < modeCycles s.ppu.mode
  · rw [ppuExecute_within hlim]
    refine ⟨⟨hl, hlim, hf⟩, ?_⟩
    simp only [framePosition_eq, setAcc_ppu_ly, setAcc_ppu_acc, setAcc_ppu_mode]
    omega
  · rw [ppuExecute_beyond (by omega)]
    obtain ⟨ok, pos⟩ := pixelUnitOk_endMode (s := setAcc (s.ppu.acc + n - modeCycles s.ppu.mode) s) hl (by rw [setAcc_ppu_acc]; omega) hf
    refine ⟨ok, ?_⟩
    rw [pos, framePosition_eq, setAcc_ppu_ly, setAcc_ppu_acc, setAcc_ppu_mode]
    omega

/-- Settles O53: within a mode the counter moves by the cycles; at its end the next mode or line starts where this one stops
(`pixelUnitOk_endMode`), and line 153 ends at 70,224. -/
theorem frameOf70224Cycles : Obligations.FrameOf70224Cycles := fun _ _ h hn => pixelUnitOk_ppuExecute h hn

end Sys2Proof.Machine

/-! ## What every step keeps (60_exceptions.md R310; 10_state.md R33, R38 to R44) -/

namespace Sys2Proof.Machine

/-! ### The cycle figures (30_encoding.md R113, R114) -/

theorem cyc_le {s : State} (h : FiguresOk s.params) (op : Byte) : cyc op s ≤ 24 ∧ cycNotTaken op s ≤ 24 := by
  obtain ⟨figures, -, -, -⟩ := h
  unfold cyc cycNotTaken
  rw [List.getD_eq_getElem?_getD]
  cases e : s.params.cyc[op.toNat]? with
  | none => exact ⟨Nat.zero_le _, Nat.zero_le _⟩
  | some f => exact figures f (List.mem_of_getElem? e)

theorem cycCb_le {s : State} (h : FiguresOk s.params) (op2 : Byte) : cycCb op2 s ≤ 24 := by
  obtain ⟨-, figures, -, -⟩ := h
  unfold cycCb
  rw [List.getD_eq_getElem?_getD]
  cases e : s.params.cycCb[op2.toNat]? with
  | none => exact Nat.zero_le _
  | some n => exact figures n (List.mem_of_getElem? e)

theorem cost_le {s : State} (h : FiguresOk s.params) (f : Form) : cost f s ≤ 24 ∧ costNotTaken f s ≤ 24 := by
  constructor
  · unfold cost
    split
    · exact Nat.zero_le _
    · exact (cyc_le h _).1
    · split
      · exact cycCb_le h _
      · exact (cyc_le h _).1
  · unfold costNotTaken
    split
    · exact Nat.zero_le _
    · exact (cyc_le h _).2

theorem finish_cycles {n : Nat} {r : Except Fault State} {t : State} (h : finish n r = .next t) : t.cycles = n := by
  obtain ⟨u, -, rfl⟩ := finish_next h
  rfl

theorem finishIf_cycles {n m : Nat} {r : Except Fault (Bool × State)} {t : State} (h : finishIf n m r = .next t) : t.cycles = n ∨ t.cycles = m := by
  obtain ⟨b, u, -, rfl⟩ := finishIf_next h
  cases b
  · exact .inr rfl
  · exact .inl rfl

/-- Every form but `PREFIX_CB` reports its figure, or 4 cycles if it is undefined. -/
theorem runForm_cycles {f : Form} {s t : State} (hp : ∀ op2, f ≠ .prefixCb op2) (h : runForm f s = .next t) :
    t.cycles = cost f s ∨ t.cycles = costNotTaken f s ∨ t.cycles = 4 := by
  cases f with
  | prefixCb op2 => exact absurd rfl (hp op2)
  | undefined u =>
    simp only [runForm, undefinedOp] at h
    split at h
    · cases h
    · exact .inr (.inr (finish_cycles h))
  | jrCc | retCc | jpCc | callCc => exact (finishIf_cycles h).imp_right .inl
  | _ =>
    simp only [runForm] at h
    exact .inl (finish_cycles h)

/-- An instruction reports at most 24 cycles where the figures keep their bound. -/
theorem exec_cycles_le {i : Instr} {s t : State} (hf : FiguresOk s.params) (h : exec i s = .next t) : t.cycles ≤ 24 := by
  have bound {f : Form} (hp : ∀ op2, f ≠ .prefixCb op2) (h : runForm f s = .next t) : t.cycles ≤ 24 := by
    obtain ⟨taken, notTaken⟩ := cost_le hf f
    rcases runForm_cycles hp h with e | e | e <;> omega
  rw [exec_form] at h
  by_cases hp : ∃ op2, i.form = .prefixCb op2
  · obtain ⟨op2, e⟩ := hp
    rw [e] at h
    exact bound (decodeExtended_plain op2).2 ((extendedOp_eq op2 s).symm.trans h)
  · exact bound (fun op2 e => hp ⟨op2, e⟩) h

/-! ### The parts of a step -/

/-- `t` is `s` but for the CPU, the interrupt registers, the joypad, the cycle count and the schedule: what a step changes outside its stores
and its devices. -/
def OuterOnly (s t : State) : Prop :=
  t = { s with cpu := t.cpu, ints := t.ints, joypad := t.joypad, cycles := t.cycles, hostActs := t.hostActs }

theorem CpuOnly.outerOnly {s t : State} (h : CpuOnly s t) : OuterOnly s t := by
  unfold CpuOnly at h
  unfold OuterOnly
  rw [h]

theorem atFetch_outerOnly (s : State) : OuterOnly s (latchIme (hostPhase s)) := by
  obtain ⟨b, m, acts, -, e⟩ := hostPhase_eq s
  obtain ⟨ime, e'⟩ := latchIme_eq (hostPhase s)
  rw [e', e]
  rfl

/-- A property of a state that no part of a step breaks. -/
structure StepInvariant (P : State → Prop) : Prop where
  /-- the host, the latch, CPU registers, the interrupt registers -/
  outer : ∀ s t, P s → OuterOnly s t → P t
  /-- a store -/
  write : ∀ a v s t, P s → memWrite a v s = .ok t → P t
  /-- the timer and the pixel unit, by as many cycles as the figures allow -/
  advance : ∀ n s, P s → (FiguresOk s.params → n ≤ 24) → P (ppuExecute n (timerUpdate n s))

theorem StepInvariant.exec {P : State → Prop} (k : StepInvariant P) {i : Instr} {s t : State} (hs : P s) (h : exec i s = .next t) : P t := by
  rw [← Instr.form_toInstr i] at h
  exact (exec_stores i.form s t h).keeps k.write (fun s t hs hc => k.outer s t hs hc.outerOnly) hs

theorem StepInvariant.takeInterrupt {P : State → Prop} (k : StepInvariant P) {i : Nat} {s t : State} (hs : P s)
    (h : takeInterrupt i s = .ok t) : P t := by
  obtain ⟨u, hu, rfl⟩ := takeInterrupt_ok h
  obtain ⟨s1, s2, h1, h2, -, rfl⟩ := push16_ok hu
  exact k.outer s2 _ (k.write _ _ _ _ (k.write _ _ _ _ (k.outer s (acknowledge i s) hs rfl) h1) h2) rfl

theorem takeInterrupt_params {i : Nat} {s t : State} (h : takeInterrupt i s = .ok t) : t.params = s.params := by
  obtain ⟨u, hu, rfl⟩ := takeInterrupt_ok h
  obtain ⟨s1, s2, -, -, kept, rfl⟩ := push16_ok hu
  exact kept.params

theorem StepInvariant.devices {P : State → Prop} (k : StepInvariant P) {s t : State} (hs : P s) (hc : FiguresOk s.params → s.cycles ≤ 24)
    (h : devices s = .ok t) : P t := by
  obtain ⟨u, -, e, hr⟩ := devices_ok h
  have hu : P u := e ▸ k.advance s.cycles s hs hc
  rcases resolve_ok hr with rfl | ⟨-, -, rfl⟩ | ⟨-, i, v, -, -, hv, rfl⟩
  · exact hu
  · exact k.outer u _ hu rfl
  · have dispatched : P v := k.takeInterrupt hu hv
    unfold consume
    split
    · exact dispatched
    · refine k.advance _ v dispatched fun figures => ?_
      rw [takeInterrupt_params hv] at figures
      obtain ⟨-, -, -, cycInt⟩ := figures
      exact cycInt

/-- The parameters are no part of a step's changes. -/
theorem stepInvariant_params (p : Params) : StepInvariant fun s => s.params = p where
  outer s t hs h := by
    rw [h]
    exact hs
  write a v s t hs h := (memWrite_kept h).params.trans hs
  advance n s hs _ := (((timerUpdate_kept n s).1.trans (ppuExecute_kept n _).1).params).trans hs

/-- What no part of a step breaks, no step breaks. -/
theorem StepInvariant.step {P : State → Prop} (k : StepInvariant P) {s t : State} (hs : P s) (h : step s = .next t) : P t := by
  have entry : P (latchIme (hostPhase s)) := k.outer s _ hs (atFetch_outerOnly s)
  rcases step_next h with ⟨-, hd⟩ | ⟨-, i, s2, u, hf, he, hd⟩
  · refine k.devices (k.outer _ (idle _) entry rfl) (fun figures => ?_) hd
    obtain ⟨-, -, cycIdle, -⟩ := figures
    exact cycIdle
  · obtain ⟨op, b1, b2, -, -, e, -, -⟩ := fetch_ok hf
    have fetched : P s2 := e ▸ k.outer _ (setPc _ _) entry rfl
    refine k.devices (k.exec fetched he) (fun figures => exec_cycles_le ?_ he) hd
    rwa [← (stepInvariant_params s2.params).exec rfl he]

theorem StepInvariant.and {P Q : State → Prop} (k : StepInvariant P) (l : StepInvariant Q) : StepInvariant fun s => P s ∧ Q s where
  outer s t hs h := ⟨k.outer s t hs.1 h, l.outer s t hs.2 h⟩
  write a v s t hs h := ⟨k.write a v s t hs.1 h, l.write a v s t hs.2 h⟩
  advance n s hs hn := ⟨k.advance n s hs.1 hn, l.advance n s hs.2 hn⟩

theorem advance_kept (n : Nat) (s : State) : DevicesKept s (ppuExecute n (timerUpdate n s)) := (timerUpdate_kept n s).1.trans (ppuExecute_kept n _).1

/-! ### Memory and the bank controller -/

theorem stepInvariant_memOk : StepInvariant MemOk where
  outer s t hs h := memOk_congr hs (by rw [h])
  write a v s t hs h := memOk_memWrite hs h
  advance n s hs _ := memOk_congr hs (advance_kept n s).mem

theorem stepInvariant_echoOk : StepInvariant EchoOk where
  outer s t hs h := echoOk_congr hs (by rw [h])
  write a v s t hs h := echoOk_memWrite hs h
  advance n s hs _ := echoOk_congr hs (advance_kept n s).mem

theorem stepInvariant_mbcOk : StepInvariant fun s => MbcOk s.cart.mbc where
  outer s t hs h := by
    rw [h]
    exact hs
  write a v s t hs h := mbcOk_memWrite hs h
  advance n s hs _ := by
    rw [(advance_kept n s).cart]
    exact hs

/-- Settles O57: memory's canonical form, the mirror and the bank controller's bounds are each kept by a store, and no other part of a step touches
them. -/
theorem stepKeepsMemoryAndBanks : Obligations.StepKeepsMemoryAndBanks := fun _ _ hm he hb h =>
  ⟨stepInvariant_memOk.step hm h, stepInvariant_echoOk.step he h, stepInvariant_mbcOk.step hb h⟩

/-! ### The devices -/

/-- A store leaves `div_acc` and `LY`, or clears them. -/
theorem memWrite_divAcc_ly {a : Word} {v : Byte} {s t : State} (h : memWrite a v s = .ok t) :
    (t.timer.divAcc = s.timer.divAcc ∨ t.timer.divAcc = 0) ∧ (t.ppu.ly = s.ppu.ly ∨ t.ppu.ly = 0) := by
  rcases memWrite_cases h with ⟨-, rfl⟩ | ⟨-, rfl⟩ | ⟨-, rfl⟩ | ⟨-, rfl⟩ | ⟨-, hd⟩ | ⟨hr, rfl⟩
  · exact ⟨.inl rfl, .inl rfl⟩
  · rw [workWrite_eq]
    exact ⟨.inl rfl, .inl rfl⟩
  · exact ⟨.inl rfl, .inl rfl⟩
  · exact ⟨.inl rfl, .inl rfl⟩
  · rw [(dmaWrite_ok hd).1]
    exact ⟨.inl rfl, .inl rfl⟩
  · rcases highWrite_register _ v s hr with ⟨-, e⟩ | ⟨-, e⟩ | ⟨-, e⟩ | ⟨-, e⟩ | ⟨-, e⟩ | ⟨-, e⟩ | ⟨-, e⟩ | ⟨-, e⟩ <;> rw [e]
    · exact ⟨.inl rfl, .inl rfl⟩
    · exact ⟨.inr rfl, .inl rfl⟩
    iterate 4 exact ⟨.inl rfl, .inl rfl⟩
    · refine ⟨.inl rfl, ?_⟩
      unfold setPpuRegister
      split
      iterate 4 exact .inl rfl
      · exact .inr rfl
      iterate 7 exact .inl rfl
    · exact ⟨.inl rfl, .inl rfl⟩

theorem stepInvariant_dividerOk : StepInvariant DividerOk where
  outer s t hs h := by
    unfold DividerOk
    rw [h]
    exact hs
  write a v s t hs h := by
    unfold DividerOk at *
    rcases (memWrite_divAcc_ly h).1 with e | e <;> omega
  advance n s _ _ := by
    obtain ⟨-, -, -, below⟩ := timerUpdate_kept n s
    unfold DividerOk
    rwa [(ppuExecute_kept n _).2]

theorem stepInvariant_pixelUnitOk : StepInvariant fun s => FiguresOk s.params ∧ PixelUnitOk s.ppu where
  outer s t hs h := by
    rw [h]
    exact hs
  write a v s t hs h := by
    obtain ⟨figures, line, acc, frame⟩ := hs
    have k := memWrite_kept h
    rw [k.params]
    refine ⟨figures, ?_, by rwa [k.acc, k.mode], by rwa [k.fb]⟩
    rw [lineOk_iff] at line ⊢
    rw [k.mode]
    rcases (memWrite_divAcc_ly h).2 with e | e <;> rw [e]
    · exact line
    · exact Nat.zero_le _
  advance n s hs hn := by
    obtain ⟨figures, ok⟩ := hs
    obtain ⟨-, same, -, -⟩ := timerUpdate_kept n s
    rw [(advance_kept n s).params]
    exact ⟨figures, (pixelUnitOk_ppuExecute (s := timerUpdate n s) (same ▸ ok) (hn figures)).1⟩

/-- Settles O58: an instruction, an idle step and a dispatch report at most 24 cycles (`exec_cycles_le`), by which the devices stay in bounds
(`pixelUnitOk_ppuExecute`); a store clears `div_acc` or `LY` at most. -/
theorem stepKeepsDevices : Obligations.StepKeepsDevices := by
  intro s t figures divider pixels h
  obtain ⟨figures', pixels'⟩ := stepInvariant_pixelUnitOk.step ⟨figures, pixels⟩ h
  exact ⟨figures', stepInvariant_dividerOk.step divider h, pixels'⟩

/-! ### The cartridge and the parameters -/

theorem cartWrite_kind (p : Params) (c : Cart) (a : Word) (v : Byte) : kindOf (cartWrite p c a v).mbc = kindOf c.mbc := by
  unfold cartWrite
  split
  · rfl
  · next h =>
    rw [h]
    rfl
  · next h =>
    rw [h]
    rfl

/-- No store changes the kind of the bank controller. -/
theorem memWrite_kind {a : Word} {v : Byte} {s t : State} (h : memWrite a v s = .ok t) : kindOf t.cart.mbc = kindOf s.cart.mbc := by
  rcases memWrite_cases h with ⟨-, rfl⟩ | ⟨-, rfl⟩ | ⟨-, rfl⟩ | ⟨-, rfl⟩ | ⟨-, hd⟩ | ⟨hr, rfl⟩
  · exact cartWrite_kind ..
  · rw [workWrite_eq]
  · rfl
  · rfl
  · rw [(dmaWrite_ok hd).1]
  · rw [(highWrite_mem hr).2]

theorem stepInvariant_cartridge (img : Image) (k : Kind) : StepInvariant fun s => s.cart.image = img ∧ kindOf s.cart.mbc = k where
  outer s t hs h := by
    rw [h]
    exact hs
  write a v s t hs h := ⟨(memWrite_kept h).image.trans hs.1, (memWrite_kind h).trans hs.2⟩
  advance n s hs _ := by
    rw [(advance_kept n s).cart]
    exact hs

/-- Settles O59: no store reaches the image, the kind or a parameter, and no other part of a step touches them. -/
theorem stepKeepsCartridgeAndParameters : Obligations.StepKeepsCartridgeAndParameters := by
  intro s t h
  obtain ⟨image, kind⟩ := (stepInvariant_cartridge s.cart.image (kindOf s.cart.mbc)).step ⟨rfl, rfl⟩ h
  exact ⟨image, kind, (stepInvariant_params s.params).step rfl h⟩

end Sys2Proof.Machine

/-! ## The encoding's patterns (30_encoding.md R103 to R110) -/

namespace Sys2Proof.Machine

/-- Settles O1: each word computes. -/
theorem decodeKnownWords : Obligations.DecodeKnownWords :=
  ⟨rfl, rfl, rfl, rfl, rfl, rfl, rfl, rfl, rfl, rfl, rfl, rfl, rfl, rfl, rfl, rfl, rfl, rfl, rfl, rfl, rfl, rfl, rfl⟩

/-- Settles O4: each pattern's rows, by their operands; forms and rows are inverse by `Instr.form_toInstr` and `Form.toInstr_form`. -/
theorem encodingPatterns : Obligations.EncodingPatterns := by
  refine ⟨fun pfx => ⟨?_, ?_, ?_, ?_, ?_, ?_, ?_, ?_, ?_, ?_, ?_, ?_, ?_, ?_, ?_, ?_, ?_, ?_, ?_, ?_, ?_, ?_, ?_, ?_, ?_, ?_, ?_⟩,
    Instr.form_toInstr, Form.toInstr_form⟩
  · intro dst r
    cases dst <;> cases r <;> rfl
  · intro dst
    cases dst <;> rfl
  · intro r
    cases r <;> rfl
  · intro v n
    rcases v with (_ | _ | _ | _ | _ | _ | _) | _ <;> rfl
  · intro p
    cases p <;> rfl
  · intro p
    cases p <;> rfl
  · intro p nn
    cases p <;> rfl
  · intro p
    cases p <;> rfl
  · intro p
    cases p <;> rfl
  · intro p
    cases p <;> rfl
  · intro v
    rcases v with (_ | _ | _ | _ | _ | _ | _) | _ <;> rfl
  · intro v
    rcases v with (_ | _ | _ | _ | _ | _ | _) | _ <;> rfl
  · intro o
    cases o <;> rfl
  · intro op v
    rcases v with (_ | _ | _ | _ | _ | _ | _) | _ <;> cases op <;> rfl
  · intro op n
    cases op <;> rfl
  · intro cc e
    cases cc <;> rfl
  · intro cc nn
    cases cc <;> rfl
  · intro cc nn
    cases cc <;> rfl
  · intro cc
    cases cc <;> rfl
  · intro p
    cases p <;> rfl
  · intro p
    cases p <;> rfl
  · intro t
    cases t <;> rfl
  · intro u
    cases u <;> rfl
  · intro o v
    rcases v with (_ | _ | _ | _ | _ | _ | _) | _ <;> cases o <;> rfl
  · intro b v
    rcases v with (_ | _ | _ | _ | _ | _ | _) | _ <;> cases b <;> rfl
  · intro b v
    rcases v with (_ | _ | _ | _ | _ | _ | _) | _ <;> cases b <;> rfl
  · intro b v
    rcases v with (_ | _ | _ | _ | _ | _ | _) | _ <;> cases b <;> rfl

end Sys2Proof.Machine

/-! ## Reset, loading and the defaults of the parameters (10_state.md R45; 20_memory.md R71, R72; 70_reset_and_hazards.md R380, R383) -/

namespace Sys2Proof.Machine

/-! ### Reset -/

/-- Settles O5: `State.resetFrom` takes each component from its argument, and the defaults are the table's values. -/
theorem resetState : Obligations.ResetState :=
  ⟨fun _ _ _ => ⟨rfl, rfl, rfl, rfl, rfl, rfl, rfl⟩, fun _ => ⟨rfl, rfl, rfl, rfl, fun _ => rfl, rfl, rfl, rfl⟩, ⟨_, rfl⟩, rfl, rfl⟩

theorem figuresOk_defaultParams : FiguresOk defaultParams := by
  unfold FiguresOk
  decide +kernel

theorem frameOk_blank : FrameOk Frame.blank :=
  ⟨List.length_replicate, fun row hr => by rw [List.eq_of_mem_replicate hr, List.length_replicate]⟩

theorem pixelUnitOk_reset : PixelUnitOk PixelUnit.reset := ⟨(lineOk_iff _).mpr (by decide), by decide, frameOk_blank⟩

theorem mbc1Ok_reset : Mbc1Ok Mbc1.reset := ⟨by decide, by decide, by decide, by decide, rfl, fun _ h => nomatch h⟩

theorem mbc2Ok_reset : Mbc2Ok Mbc2.reset := ⟨by decide, rfl, fun _ h => nomatch h⟩

/-- The state of reset meets every invariant its bank controller meets. -/
theorem inv_resetWith {cart : Cart} (h : MbcOk cart.mbc) : Inv (State.resetWith cart) :=
  ⟨figuresOk_defaultParams, show resetF &&& 0x0F = 0 by decide, ⟨rfl, fun _ h => nomatch h⟩, fun _ _ _ => rfl, Nat.zero_lt_succ _, h, pixelUnitOk_reset⟩

/-- Settles O6: memory is empty, the pixel unit stands at line 0, and the blank cartridge is ROM-only. -/
theorem resetMeetsInvariants : Obligations.ResetMeetsInvariants := inv_resetWith trivial

/-! ### Loading -/

/-- The three variants of R72 and the selectors that give them. -/
theorem mbcOfSelector_eq_some {r : Reset} {v : Byte} {m : Mbc} : mbcOfSelector r v = some m ↔
    (v = 0x00 ∧ m = .romOnly) ∨ ((v = 0x01 ∨ v = 0x02 ∨ v = 0x03) ∧ m = .mbc1 r.mbc1State) ∨ ((v = 0x05 ∨ v = 0x06) ∧ m = .mbc2 r.mbc2State) := by
  unfold mbcOfSelector
  split
  · next h =>
    subst h
    simp [eq_comm]
  split
  · next h => rcases h with rfl | rfl | rfl <;> simp [eq_comm]
  split
  · next h => rcases h with rfl | rfl <;> simp [eq_comm]
  · next h0 h1 h2 => simp only [h0, h1, h2, false_and, or_false, reduceCtorEq]

/-- The checks of R383, and the machine where they pass. -/
theorem loadWith_eq_ok {r : Reset} {p : Params} {image : List Byte} {s : State} : State.loadWith r p image = .ok s ↔
    0x148 ≤ image.length ∧ ∃ m, mbcOfSelector r (romSelector image) = some m ∧ image.length ≤ maxImageLength m ∧
      s = State.resetFrom r p { image := { len := image.length, cells := Memory.ofBytes image 0 }, mbc := m } := by
  unfold State.loadWith
  by_cases hl : image.length < 0x148
  · simp [hl]
  · rw [if_neg hl]
    cases mbcOfSelector r (romSelector image) with
    | none => simp
    | some m =>
      by_cases hm : maxImageLength m < image.length
      · simp [hm]
      · simp [hm, Nat.le_of_not_lt hl, Nat.le_of_not_lt hm, eq_comm]

/-- The selector is byte 0x147. -/
theorem getElem?_romSelector {image : List Byte} (h : 0x148 ≤ image.length) : image[0x147]? = some (romSelector image) := by
  rw [romSelector, List.getD_eq_getElem?_getD, List.getElem?_eq_getElem (by omega), Option.getD_some]

/-- An image loads exactly if it is long enough and its selector is one of a kind that allows its length. -/
theorem loadWith_completes_iff (r : Reset) (p : Params) (image : List Byte) :
    (∃ s, State.loadWith r p image = .ok s) ↔
      0x148 ≤ image.length ∧ ∃ v, image[0x147]? = some v ∧
        ((v = 0x00 ∧ image.length ≤ 0x8000) ∨ ((v = 0x01 ∨ v = 0x02 ∨ v = 0x03) ∧ image.length ≤ 0x200000) ∨
          ((v = 0x05 ∨ v = 0x06) ∧ image.length ≤ 0x40000)) := by
  simp only [loadWith_eq_ok, mbcOfSelector_eq_some]
  constructor
  · rintro ⟨s, hl, m, hm, hmax, -⟩
    refine ⟨hl, _, getElem?_romSelector hl, ?_⟩
    rcases hm with ⟨hv, rfl⟩ | ⟨hv, rfl⟩ | ⟨hv, rfl⟩
    · exact .inl ⟨hv, hmax⟩
    · exact .inr (.inl ⟨hv, hmax⟩)
    · exact .inr (.inr ⟨hv, hmax⟩)
  · rintro ⟨hl, v, hv, hk⟩
    obtain rfl : romSelector image = v := Option.some.inj ((getElem?_romSelector hl).symm.trans hv)
    rcases hk with ⟨hk, hmax⟩ | ⟨hk, hmax⟩ | ⟨hk, hmax⟩
    · exact ⟨_, hl, .romOnly, .inl ⟨hk, rfl⟩, hmax, rfl⟩
    · exact ⟨_, hl, .mbc1 r.mbc1State, .inr (.inl ⟨hk, rfl⟩), hmax, rfl⟩
    · exact ⟨_, hl, .mbc2 r.mbc2State, .inr (.inr ⟨hk, rfl⟩), hmax, rfl⟩

/-- A loaded machine's bank controller is its selector's. -/
theorem loadWith_mbc {r : Reset} {p : Params} {image : List Byte} {s : State} (h : State.loadWith r p image = .ok s) {v : Byte}
    (hv : image[0x147]? = some v) : mbcOfSelector r v = some s.cart.mbc := by
  obtain ⟨hl, m, hm, -, rfl⟩ := loadWith_eq_ok.mp h
  obtain rfl : romSelector image = v := Option.some.inj ((getElem?_romSelector hl).symm.trans hv)
  exact hm

/-- The same, by the three kinds. -/
theorem loadWith_mbc_kinds {r : Reset} {p : Params} {image : List Byte} {s : State} (h : State.loadWith r p image = .ok s) :
    (image[0x147]? = some 0x00 → s.cart.mbc = .romOnly) ∧
    (image[0x147]? = some 0x01 ∨ image[0x147]? = some 0x02 ∨ image[0x147]? = some 0x03 → s.cart.mbc = .mbc1 r.mbc1State) ∧
    (image[0x147]? = some 0x05 ∨ image[0x147]? = some 0x06 → s.cart.mbc = .mbc2 r.mbc2State) := by
  refine ⟨fun hv => ?_, fun hv => ?_, fun hv => ?_⟩
  · exact (Option.some.inj (loadWith_mbc h hv)).symm
  · rcases hv with hv | hv | hv <;> exact (Option.some.inj (loadWith_mbc h hv)).symm
  · rcases hv with hv | hv <;> exact (Option.some.inj (loadWith_mbc h hv)).symm

theorem loadWith_machine {r : Reset} {p : Params} {image : List Byte} {s : State} (h : State.loadWith r p image = .ok s) :
    s = State.resetFrom r p s.cart ∧ s.cart.image.len = image.length ∧ ∀ k (hk : k < image.length), s.cart.image.cells.read k = image[k] := by
  obtain ⟨-, m, -, -, rfl⟩ := loadWith_eq_ok.mp h
  refine ⟨rfl, rfl, fun k hk => ?_⟩
  have e := Memory.read_ofBytes image 0 k hk
  rwa [Nat.zero_add] at e

/-- A bank controller in its default state of reset is in bounds. -/
theorem mbcOk_of_selector {v : Byte} {m : Mbc} (h : mbcOfSelector Reset.defaults v = some m) : MbcOk m := by
  rcases mbcOfSelector_eq_some.mp h with ⟨-, rfl⟩ | ⟨-, rfl⟩ | ⟨-, rfl⟩
  · trivial
  · exact mbc1Ok_reset
  · exact mbc2Ok_reset

/-- Settles O7: the load checks are those of `loadWith_eq_ok`, the kinds those of `mbcOfSelector_eq_some`, and the image reads back by
`Memory.read_ofBytes`. -/
theorem loadedMachine : Obligations.LoadedMachine := by
  refine ⟨fun r p image => ⟨loadWith_completes_iff r p image, fun s h => ?_⟩, fun image s h => ?_⟩
  · obtain ⟨machine, len, bytes⟩ := loadWith_machine h
    exact ⟨machine, len, bytes, loadWith_mbc_kinds h⟩
  · have h' : State.loadWith Reset.defaults defaultParams image = .ok s := h
    obtain ⟨machine, -, -⟩ := loadWith_machine h'
    obtain ⟨hl, -⟩ := loadWith_eq_ok.mp h'
    refine ⟨h', machine, ?_, loadWith_mbc_kinds h'⟩
    rw [machine]
    exact inv_resetWith (mbcOk_of_selector (loadWith_mbc h' (getElem?_romSelector hl)))

/-! ### The default figures (R113, R114) -/

/-- A figure depends on the parameters alone. -/
theorem cost_of_params {s t : State} (h : s.params = t.params) (f : Form) : cost f s = cost f t ∧ costNotTaken f s = costNotTaken f t := by
  have hc (op : Byte) : cyc op s = cyc op t ∧ cycNotTaken op s = cycNotTaken op t ∧ cycCb op s = cycCb op t := by
    simp only [cyc, cycNotTaken, cycCb, h, and_self]
  unfold cost costNotTaken
  constructor <;> split <;> simp only [hc]

/-- Figures by the defaults are those of the state of reset, whose parameters are literals. -/
theorem cost_of_defaults {s : State} (h : s.params = defaultParams) (f : Form) :
    cost f s = cost f State.reset ∧ costNotTaken f s = costNotTaken f State.reset := cost_of_params h f

/-- The figure of every row the second byte 0x00 to 0xFF of `PREFIX_CB` selects. -/
theorem cost_prefixCb_defaults (op2 : Byte) :
    cost (.prefixCb op2) State.reset = if op2.toNat % 8 ≠ 6 then 8 else if 0x40 ≤ op2.toNat ∧ op2.toNat < 0x80 then 12 else 16 := by
  show cycCb op2 State.reset = _
  revert op2
  decide +kernel

/-- Settles O60: each row's figure is looked up in the default tables, which are literals. -/
theorem defaultFigures : Obligations.DefaultFigures := by
  refine ⟨fun s hs => ?_, by decide +kernel, by decide +kernel, rfl, rfl, rfl, rfl, rfl, rfl, rfl, rfl, rfl, rfl, figuresOk_defaultParams⟩
  have taken (f : Form) : cost f s = cost f State.reset := (cost_of_defaults hs f).1
  have notTaken (f : Form) : costNotTaken f s = costNotTaken f State.reset := (cost_of_defaults hs f).2
  simp only [taken, notTaken]
  refine ⟨fun dst r v => ⟨?_, ?_, ?_, fun n => ?_⟩, fun ptr nn n => ⟨?_, ?_, rfl, rfl, rfl, rfl, rfl, rfl⟩,
    fun p sp nn e => ⟨?_, rfl, rfl, rfl, ?_, ?_⟩, fun op v n => ⟨?_, ?_, ?_, ?_, rfl, rfl, rfl, rfl⟩, fun p e => ⟨?_, ?_, ?_, rfl⟩,
    fun ar o b v op2 => ⟨?_, ?_, ?_, ?_, ?_, cost_prefixCb_defaults op2⟩, fun cc nn e => ⟨rfl, rfl, rfl, ?_, ?_, ?_, ?_⟩,
    fun cc nn r => ⟨rfl, ?_, ?_, rfl, rfl, ?_, ?_, ?_⟩, fun pad => ⟨rfl, rfl, rfl, rfl, rfl⟩⟩
  · cases dst <;> cases r <;> rfl
  · cases dst <;> rfl
  · cases r <;> rfl
  · rcases v with (_ | _ | _ | _ | _ | _ | _) | _ <;> rfl
  · cases ptr <;> rfl
  · cases ptr <;> rfl
  · cases p <;> rfl
  · cases sp <;> rfl
  · cases sp <;> rfl
  · rcases v with (_ | _ | _ | _ | _ | _ | _) | _ <;> cases op <;> rfl
  · cases op <;> rfl
  · rcases v with (_ | _ | _ | _ | _ | _ | _) | _ <;> rfl
  · rcases v with (_ | _ | _ | _ | _ | _ | _) | _ <;> rfl
  · cases p <;> rfl
  · cases p <;> rfl
  · cases p <;> rfl
  · cases ar <;> rfl
  · rcases v with (_ | _ | _ | _ | _ | _ | _) | _ <;> cases o <;> rfl
  · rcases v with (_ | _ | _ | _ | _ | _ | _) | _ <;> cases b <;> rfl
  · rcases v with (_ | _ | _ | _ | _ | _ | _) | _ <;> cases b <;> rfl
  · rcases v with (_ | _ | _ | _ | _ | _ | _) | _ <;> cases b <;> rfl
  · cases cc <;> rfl
  · cases cc <;> rfl
  · cases cc <;> rfl
  · cases cc <;> rfl
  · cases cc <;> rfl
  · cases cc <;> rfl
  · cases cc <;> rfl
  · cases cc <;> rfl
  · cases r <;> rfl

end Sys2Proof.Machine

/-! ## Timer and interrupts (60_exceptions.md R301 to R308, R320 to R323) -/

namespace Sys2Proof.Machine

/-! ### Dispatch (R305) -/

/-- The mask of an acknowledge clears bit i alone. -/
theorem acknowledge_mask {i k : Nat} (hi : i < 5) (hk : k < 8) : ((0xFF : Byte) ^^^ BitVec.ofNat 8 (2 ^ i)).getLsbD k = decide (k ≠ i) := by
  have all : ∀ i < 5, ∀ k < 8, ((0xFF : Byte) ^^^ BitVec.ofNat 8 (2 ^ i)).getLsbD k = decide (k ≠ i) := by decide
  exact all i hi k hk

/-- `IF` with bit i cleared, bit by bit. -/
theorem acknowledge_iflag {i : Nat} {f iflag : Byte} (hi : i < 5) (h : ∀ k, k < 8 → f.getLsbD k = (iflag.getLsbD k && decide (k ≠ i))) :
    iflag &&& (0xFF ^^^ BitVec.ofNat 8 (2 ^ i)) = f := by
  apply BitVec.eq_of_getLsbD_eq
  intro k hk
  rw [BitVec.getLsbD_and, acknowledge_mask hi hk, h k hk]

theorem interruptVector_eq {i : Nat} (hi : i < 5) : interruptVector i = ([0x40, 0x48, 0x50, 0x58, 0x60] : List Word).getD i 0 := by
  have all : ∀ i < 5, interruptVector i = ([0x40, 0x48, 0x50, 0x58, 0x60] : List Word).getD i 0 := by decide
  exact all i hi

/-- Settles O45: the state before the push is `acknowledge`, bit by bit (`acknowledge_iflag`), and `Pushed` is the push (`pushed_iff`). -/
theorem dispatchEntry : Obligations.DispatchEntry := by
  intro s t i f hi hf hp
  rw [← acknowledge_iflag hi hf] at hp
  have push : push16 s.cpu.pc (acknowledge i s) = .ok t := pushed_iff.mp hp
  simp only [takeInterrupt, push, ← interruptVector_eq hi]
  rfl

/-! ### Priority (R304, R306) -/

/-- The pending bits are those set in both registers. -/
theorem pending_getLsbD (s : State) {k : Nat} (hk : k < 5) : bit (pending s) k = (s.ints.iflag.getLsbD k && s.ints.ie.getLsbD k) := by
  have low : ∀ k < 5, (0x1F : Byte).getLsbD k = true := by decide
  rw [bit_eq, pending, BitVec.getLsbD_and, BitVec.getLsbD_and, low k hk, Bool.and_true]

/-- The lowest set bit of 0 to 4 is found. -/
theorem firstPending_eq_some {p : Byte} {i : Nat} (hi : i < 5) (hp : bit p i = true) (low : ∀ k, k < i → bit p k = false) : firstPending p = some i := by
  unfold firstPending
  interval_cases i
  · rw [if_pos hp]
  · rw [low 0 (by decide), if_neg (by decide), if_pos hp]
  · rw [low 0 (by decide), low 1 (by decide), if_neg (by decide), if_neg (by decide), if_pos hp]
  · rw [low 0 (by decide), low 1 (by decide), low 2 (by decide), if_neg (by decide), if_neg (by decide), if_neg (by decide), if_pos hp]
  · rw [low 0 (by decide), low 1 (by decide), low 2 (by decide), low 3 (by decide), if_neg (by decide), if_neg (by decide), if_neg (by decide),
      if_neg (by decide), if_pos hp]

theorem firstPending_eq_none {p : Byte} (h : ∀ k, k < 5 → bit p k = false) : firstPending p = none := by
  cases e : firstPending p with
  | none => rfl
  | some i =>
    unfold firstPending at e
    simp [h] at e

/-- `resolve` with `IME = 1` and a first pending interrupt. -/
theorem resolve_dispatch {s : State} {i : Nat} (hime : s.ints.ime = true) (hp : firstPending (pending s) = some i) : resolve s = dispatch i s := by
  rw [resolve, if_pos hime, hp]

/-- `resolve` with `IME = 0`. -/
theorem resolve_off {s : State} (hime : s.ints.ime = false) :
    resolve s = if s.cpu.halted = true ∧ pending s ≠ 0 then .ok (wake s) else .ok s := by
  rw [resolve, hime, if_neg (by decide)]

theorem dispatch_eq_map (i : Nat) (s : State) : dispatch i s = (takeInterrupt i s).map (consume s.params.cycInt) := by
  unfold dispatch
  cases takeInterrupt i s <;> rfl

/-- Settles O46: `firstPending` is the lowest bit of `IF AND IE` below 5 (`pending_getLsbD`), and `resolve` dispatches it alone. -/
theorem resolvePriority : Obligations.ResolvePriority := by
  refine ⟨fun t => ⟨rfl, fun n hn => if_neg hn⟩, fun s hime => ⟨fun i hi hf he low => ?_, fun unset => ?_⟩, fun s hime quiet => ?_⟩
  · rw [resolve_dispatch hime (firstPending_eq_some hi ?_ fun k hk => ?_), dispatch_eq_map]
    · rw [pending_getLsbD s hi, hf, he, Bool.and_true]
    · rw [pending_getLsbD s (by omega), Bool.and_eq_false_iff]
      exact low k hk
  · have first : firstPending (pending s) = none := firstPending_eq_none fun k hk => by
      rw [pending_getLsbD s hk, Bool.and_eq_false_iff]
      exact unset k hk
    rw [resolve, if_pos hime, first]
  · rw [resolve_off hime, if_neg]
    rintro ⟨halted, pend⟩
    rcases quiet with awake | zero
    · rw [awake] at halted
      cases halted
    · exact pend zero

/-- Settles O47. -/
theorem haltWake : Obligations.HaltWake := fun _ hime halted pend => (resolve_off hime).trans (if_pos ⟨halted, pend⟩)

/-! ### The divider (R320, R321) -/

/-- The loop's count is the quotient by 256. -/
theorem divUpdate_eq (cycles : Nat) (t : Timer) : divUpdate cycles t =
    { t with div := BitVec.ofNat 8 (t.div.toNat + (t.divAcc + cycles) / 256), divAcc := (t.divAcc + cycles) % 256 } := by
  rw [divUpdate, BitVec.ofNat_add, BitVec.ofNat_toNat, BitVec.setWidth_eq]

theorem timaTick_div (s : State) : (timaTick s).timer.div = s.timer.div := by
  unfold timaTick
  split <;> rfl

theorem timaTicks_div (n : Nat) (s : State) : (timaTicks n s).timer.div = s.timer.div := by
  induction n generalizing s with
  | zero => rfl
  | succ n ih => exact (ih (timaTick s)).trans (timaTick_div s)

theorem counterUpdate_div (cycles : Nat) (s : State) : (counterUpdate cycles s).timer.div = s.timer.div := by
  unfold counterUpdate
  split
  · exact timaTicks_div ..
  · rfl

/-- R322 with `TMC[2] = 0`. -/
theorem counterUpdate_off {s : State} (cycles : Nat) (h : s.timer.tmc.getLsbD 2 = false) : counterUpdate cycles s = s := by
  rw [counterUpdate, bit_eq, h, if_neg (by decide)]

/-- Settles O49: the divider's count and remainder are those of the division by 256 (`divUpdate_eq`), and the counter leaves both. -/
theorem dividerLoop : Obligations.DividerLoop := by
  refine ⟨fun t cycles => ?_, fun s cycles => ?_⟩
  · refine ⟨(t.divAcc + cycles) / 256, ?_, ?_, ?_, fun _ _ => by omega⟩ <;> rw [divUpdate_eq]
    · exact (Nat.div_add_mod ..).symm
    · exact Nat.mod_lt _ (by decide)
  · obtain ⟨-, -, -, acc⟩ := counterUpdate_kept cycles { s with timer := divUpdate cycles s.timer }
    exact ⟨counterUpdate_div .., acc, fun off => counterUpdate_off cycles off, rfl⟩

/-! ### The counter (R322, R323) -/

theorem timaTicks_eq_iterate (n : Nat) (s : State) : timaTicks n s = Nat.iterate timaTick n s := by
  induction n generalizing s with
  | zero => rfl
  | succ n ih => exact ih (timaTick s)

theorem timerDivisor_eq (tmc : Byte) : timerDivisor tmc = ([1024, 16, 64, 256] : List Nat).getD (tmc.toNat % 4) 0 ∧ 0 < timerDivisor tmc := by
  revert tmc
  decide +kernel

/-- R322 with `TMC[2] = 1`: as many ticks as the quotient, and the remainder. -/
theorem counterUpdate_on {s : State} (cycles : Nat) (h : s.timer.tmc.getLsbD 2 = true) :
    counterUpdate cycles s = Nat.iterate timaTick ((s.timer.timaAcc + cycles) / timerDivisor s.timer.tmc)
      { s with timer := { s.timer with timaAcc := (s.timer.timaAcc + cycles) % timerDivisor s.timer.tmc } } := by
  rw [counterUpdate, bit_eq, h, if_pos rfl, timaTicks_eq_iterate]

theorem counterUpdate_timaAcc {s : State} (cycles : Nat) (h : s.timer.tmc.getLsbD 2 = true) :
    (counterUpdate cycles s).timer.timaAcc = (s.timer.timaAcc + cycles) % timerDivisor s.timer.tmc := by
  rw [counterUpdate_on cycles h, ← timaTicks_eq_iterate]
  obtain ⟨-, -, -, -, acc⟩ := timaTicks_kept ((s.timer.timaAcc + cycles) / timerDivisor s.timer.tmc)
    { s with timer := { s.timer with timaAcc := (s.timer.timaAcc + cycles) % timerDivisor s.timer.tmc } }
  exact acc

/-- R323, the tick that overflows. -/
theorem timaTick_overflow {s : State} (h : s.timer.tima = 0xFF) :
    timaTick s = { s with timer := { s.timer with tima := s.timer.tma }, ints := { s.ints with iflag := s.ints.iflag ||| 0x04 } } := by
  rw [timaTick, if_pos h]
  rfl

/-- R323, any other tick. -/
theorem timaTick_count {s : State} (h : s.timer.tima ≠ 0xFF) :
    timaTick s = { s with timer := { s.timer with tima := BitVec.ofNat 8 (s.timer.tima.toNat + 1) } } := by
  rw [timaTick, if_neg h, byte_add_one]

theorem timer_reloaded {t : Timer} (h : t.tima = t.tma) : { t with tima := t.tma } = t := by
  cases t
  cases h
  rfl

/-- From a reload, `k` ticks count `TIMA` up by `k` as long as it stays below 256. -/
theorem timaTick_iterate {s : State} (h : s.timer.tima = s.timer.tma) (k : Nat) (hk : k < 256 - s.timer.tma.toNat) :
    Nat.iterate timaTick k s = { s with timer := { s.timer with tima := BitVec.ofNat 8 (s.timer.tma.toNat + k) } } := by
  induction k with
  | zero => rw [Nat.add_zero, BitVec.ofNat_toNat, BitVec.setWidth_eq, timer_reloaded h, Function.iterate_zero, id]
  | succ k ih =>
    have value : (BitVec.ofNat 8 (s.timer.tma.toNat + k)).toNat = s.timer.tma.toNat + k := by
      rw [BitVec.toNat_ofNat]
      omega
    have below : BitVec.ofNat 8 (s.timer.tma.toNat + k) ≠ 0xFF := by
      intro e
      have := congrArg BitVec.toNat e
      rw [value] at this
      have full : (0xFF : Byte).toNat = 255 := rfl
      omega
    rw [Function.iterate_succ_apply', ih (by omega), timaTick_count below]
    simp only [value, Nat.add_assoc]

/-- Settles O50: the counter runs quotient many ticks (`counterUpdate_on`); from a reload `TIMA` counts up to 0xFF (`timaTick_iterate`) and the tick
after it reloads. -/
theorem timerCounter : Obligations.TimerCounter := by
  refine ⟨fun s cycles => ⟨counterUpdate_off cycles, fun on => ?_, timaTick_overflow, timaTick_count⟩, fun s h => ⟨timaTick_iterate h, ?_⟩⟩
  · obtain ⟨divisor, positive⟩ := timerDivisor_eq s.timer.tmc
    refine ⟨timerDivisor s.timer.tmc, (s.timer.timaAcc + cycles) / timerDivisor s.timer.tmc, divisor, ?_, ?_, ?_⟩
    · rw [counterUpdate_timaAcc cycles on]
      exact (Nat.div_add_mod ..).symm
    · rw [counterUpdate_timaAcc cycles on]
      exact Nat.mod_lt _ positive
    · rw [counterUpdate_timaAcc cycles on]
      exact counterUpdate_on cycles on
  · have bound := s.timer.tma.isLt
    have last : 256 - s.timer.tma.toNat = (255 - s.timer.tma.toNat) + 1 := by omega
    have full : s.timer.tma.toNat + (255 - s.timer.tma.toNat) = 255 := by omega
    rw [last, Function.iterate_succ_apply', timaTick_iterate h _ (by omega), full, timaTick_overflow (by rfl)]
    simp only [timer_reloaded h]

end Sys2Proof.Machine

/-! ## The machine step (30_encoding.md R101; 60_exceptions.md R310 to R315; 46_system.md R281 to R284) -/

namespace Sys2Proof.Machine

/-! ### Before the fetch -/

/-- R29: `IME` takes the latched value, the latch returns to `None`. -/
theorem latchIme_value (s : State) : latchIme s = { s with
    ints := { s.ints with ime := decide (s.cpu.imePending = .enable ∨ (s.cpu.imePending = .none ∧ s.ints.ime = true)) }
    cpu := { s.cpu with imePending := .none } } := by
  unfold latchIme
  cases h : s.cpu.imePending with
  | none =>
    have cpu : { s.cpu with imePending := .none } = s.cpu := by rw [← h]
    simp [cpu]
  | enable => rfl
  | disable => rfl

/-- Settles O10: the host's phase is `hostPhase_eq`, with or without `IF` bit 4; the latch's is `latchIme_value`. -/
theorem beforeTheFetch : Obligations.BeforeTheFetch := by
  refine ⟨fun s => ?_, latchIme_value⟩
  obtain ⟨b, m, acts, rfl | rfl, e⟩ := hostPhase_eq s
  · exact ⟨b, acts, .inl (by simpa using e)⟩
  · exact ⟨b, acts, .inr e⟩

theorem atFetch_params (s : State) : (atFetch s).params = s.params := (entry_kept s).1.params

/-- The host's acts and the latch leave the CPU but for the latch. -/
theorem atFetch_cpu (s : State) : (atFetch s).cpu = { s.cpu with imePending := .none } := by
  obtain ⟨k, latch⟩ := entry_kept s
  show (latchIme (hostPhase s)).cpu = _
  rw [← k.cpu, ← latch]

/-! ### The fetch -/

/-- The bytes at `PC` are fetched where they decode. -/
theorem fetch_of_fetches {s : State} {bytes : List Byte} {i : Instr} (h : Fetches s bytes i) :
    fetch s = .ok (i, setPc (s.cpu.pc + BitVec.ofNat 16 bytes.length) s) := by
  obtain ⟨-, reads, decoded⟩ := h
  obtain ⟨op, b1, b2, rfl, e, absent1, absent2⟩ := decode_ok decoded
  rw [List.append_nil] at e
  rcases lengthOf_cases s.params.prefixByte op with hl | hl | hl <;> rw [hl] at e <;> subst e
  · have r0 : memRead s.cpu.pc s = .ok op := by simpa using reads 0 (by simp)
    rw [fetch_of_reads r0 (b1 := b1) (b2 := b2) (by simp [operandByte, hl, absent1]) (by simp [operandByte, hl, absent2]), hl]
    rfl
  · have r0 : memRead s.cpu.pc s = .ok op := by simpa using reads 0 (by simp)
    have r1 : memRead (s.cpu.pc + 1) s = .ok b1 := reads 1 (by simp)
    rw [fetch_of_reads r0 (b1 := b1) (b2 := b2) (by simpa [operandByte, hl] using r1) (by simp [operandByte, hl, absent2]), hl]
    rfl
  · have r0 : memRead s.cpu.pc s = .ok op := by simpa using reads 0 (by simp)
    have r1 : memRead (s.cpu.pc + 1) s = .ok b1 := reads 1 (by simp)
    have r2 : memRead (s.cpu.pc + 2) s = .ok b2 := reads 2 (by simp)
    rw [fetch_of_reads r0 (b1 := b1) (b2 := b2) (by simpa [operandByte, hl] using r1) (by simpa [operandByte, hl] using r2), hl]
    rfl

theorem isIdle_eq_false {s : State} (hh : s.cpu.halted = false) (hs : s.cpu.stopped = false) : isIdle s = false := by
  rw [isIdle, hh, hs]
  rfl

theorem isIdle_eq_true {s : State} (h : s.cpu.halted = true ∨ s.cpu.stopped = true) : isIdle s = true := by
  rw [isIdle, Bool.or_eq_true]
  exact h

theorem devicesOut_of_ok {s t : State} (h : devices s = .ok t) : devicesOut s = .next t := by rw [devicesOut, h]

theorem devicesOut_of_error {s : State} {f : Fault} (h : devices s = .error f) : devicesOut s = .fault f := by rw [devicesOut, h]

/-- Settles O8: the fetch is `fetch_of_fetches`, and the rest of the step is `afterExec`. -/
theorem stepRunsDecodedInstruction : Obligations.StepRunsDecodedInstruction := by
  intro s bytes i hh hs hf
  have run : step s = afterExec (exec i (setPc ((atFetch s).cpu.pc + BitVec.ofNat 16 bytes.length) (atFetch s))) :=
    step_fetched (isIdle_eq_false hh hs) (fetch_of_fetches hf)
  refine ⟨fun t u he hd => ?_, fun t f he hd => ?_, fun f he => ?_⟩
  · rw [run, he]
    exact devicesOut_of_ok hd
  · rw [run, he]
    exact devicesOut_of_error hd
  · rw [run, he, afterExec]

/-- A completed step of a one-byte instruction of the base table. -/
theorem step_oneByte {s t : State} {op : Byte} (hh : (atFetch s).cpu.halted = false) (hs : (atFetch s).cpu.stopped = false)
    (hp : (atFetch s).params.prefixByte ≠ op) (hl : (decodeBase op 0 0).length = 1) (hr : memRead (atFetch s).cpu.pc (atFetch s) = .ok op)
    (h : step s = .next t) :
    ∃ u, exec (decodeBase op 0 0).toInstr (setPc ((atFetch s).cpu.pc + 1) (atFetch s)) = .next u ∧ devices u = .ok t := by
  have len : lengthOf (atFetch s).params.prefixByte op = 1 := (lengthOf_base hp.symm).trans hl
  have fetched : fetch (atFetch s) = .ok ((decodeBase op 0 0).toInstr, setPc ((atFetch s).cpu.pc + 1) (atFetch s)) := by
    rw [fetch_of_reads hr (b1 := 0) (b2 := 0) (by simp [operandByte, len]) (by simp [operandByte, len]), len, decodeInstr_base hp.symm]
    rfl
  rw [step_fetched (isIdle_eq_false hh hs) fetched] at h
  cases he : exec (decodeBase op 0 0).toInstr (setPc ((atFetch s).cpu.pc + 1) (atFetch s)) with
  | next u =>
    rw [he] at h
    exact ⟨u, rfl, devicesOut_next h⟩
  | fault f =>
    rw [he] at h
    cases h
  | refused r =>
    rw [he] at h
    cases h

/-! ### The devices' part of a step, and the CPU -/

/-- The CPU after the dispatch of interrupt i (R305). -/
def dispatchedCpu (i : Nat) (c : Cpu) : Cpu := { c with imePending := .none, halted := false, sp := c.sp - 2, pc := interruptVector i }

theorem takeInterrupt_cpu {i : Nat} {s t : State} (h : takeInterrupt i s = .ok t) : t.cpu = dispatchedCpu i s.cpu ∧ t.cycles = s.cycles := by
  obtain ⟨u, hu, rfl⟩ := takeInterrupt_ok h
  obtain ⟨s1, s2, -, -, kept, rfl⟩ := push16_ok hu
  refine ⟨?_, kept.cycles⟩
  simp only [setPc, setSp, kept.cpu]
  rfl

/-- After `execute()` the CPU is as it was, is woken, or has dispatched an interrupt; the reported cycles stay. -/
theorem devices_cpu {s t : State} (h : devices s = .ok t) : t.cycles = s.cycles ∧
    (t.cpu = s.cpu ∨ t.cpu = { s.cpu with halted := false } ∨ ∃ i, t.cpu = dispatchedCpu i s.cpu) := by
  obtain ⟨u, k, -, hr⟩ := devices_ok h
  rw [← k.cpu, ← k.cycles]
  rcases resolve_ok hr with rfl | ⟨-, -, rfl⟩ | ⟨-, i, v, -, -, hv, rfl⟩
  · exact ⟨rfl, .inl rfl⟩
  · exact ⟨rfl, .inr (.inl rfl)⟩
  · obtain ⟨c, -⟩ := consume_kept u.params.cycInt v
    obtain ⟨cpu, cycles⟩ := takeInterrupt_cpu hv
    exact ⟨c.cycles.trans cycles, .inr (.inr ⟨i, c.cpu.trans cpu⟩)⟩

/-- With `IME = 0` nothing is dispatched. -/
theorem devices_off {s t : State} (h : devices s = .ok t) (hime : s.ints.ime = false) :
    t.ints.ime = false ∧ (t.cpu = s.cpu ∨ t.cpu = { s.cpu with halted := false }) := by
  obtain ⟨u, k, -, hr⟩ := devices_ok h
  rw [← k.cpu]
  rw [← k.ime] at hime
  rcases resolve_ok hr with rfl | ⟨-, -, rfl⟩ | ⟨on, -⟩
  · exact ⟨hime, .inl rfl⟩
  · exact ⟨hime, .inr rfl⟩
  · rw [hime] at on
    cases on

/-- With `IME = 0` a pending enabled interrupt wakes a halted CPU (R307). -/
theorem devices_wake {s t : State} (h : devices s = .ok t) (hime : s.ints.ime = false) (halted : s.cpu.halted = true) (pend : pending s ≠ 0) :
    t.cpu = { s.cpu with halted := false } := by
  obtain ⟨u, k, -, hr⟩ := devices_ok h
  rw [resolve_off (k.ime.trans hime), if_pos ⟨by rw [k.cpu, halted], pending_mono k pend⟩] at hr
  rw [← Except.ok.inj hr, ← k.cpu]
  rfl

/-- With `IME = 1` a pending enabled interrupt is dispatched (R306). -/
theorem devices_dispatch {s t : State} (h : devices s = .ok t) (hime : s.ints.ime = true) (pend : pending s ≠ 0) :
    ∃ i, i < 5 ∧ t.cpu = dispatchedCpu i s.cpu ∧ t.ints.ime = false := by
  obtain ⟨u, k, -, hr⟩ := devices_ok h
  have five (p : Byte) : p &&& 0x1F &&& 0x1F = p &&& 0x1F := by rw [BitVec.and_assoc, BitVec.and_self]
  cases hp : firstPending (pending u) with
  | none =>
    have zero : pending u &&& 0x1F = 0 := firstPending_none hp
    rw [pending, five] at zero
    exact absurd zero (pending_mono k pend)
  | some i =>
    rw [resolve_dispatch (k.ime.trans hime) hp] at hr
    obtain ⟨v, hv, hr⟩ := bind_ok hr
    obtain ⟨c, -⟩ := consume_kept u.params.cycInt v
    refine ⟨i, firstPending_lt hp, ?_, ?_⟩
    · rw [← Except.ok.inj hr, c.cpu, (takeInterrupt_cpu hv).1, k.cpu]
    · rw [← Except.ok.inj hr, c.ime, takeInterrupt_ints_ime hv]

/-! ### Halted and stopped steps (R101, R281, R282, R315) -/

/-- A step that finds the CPU stopped leaves it stopped, with its general registers and `F`. -/
theorem step_stopped {s t : State} (hs : s.cpu.stopped = true) (h : step s = .next t) :
    t.cpu.stopped = true ∧ (∀ r, getReg r t = getReg r s) ∧ t.cpu.f = s.cpu.f ∧ t.cycles = s.params.cycIdle := by
  have stopped : (atFetch s).cpu.stopped = true := by rw [atFetch_cpu, hs]
  have hd : devices (idle (atFetch s)) = .ok t := by
    rw [step_idle s (isIdle_eq_true (.inr stopped))] at h
    exact devicesOut_next h
  obtain ⟨cycles, cpu⟩ := devices_cpu hd
  rw [idle_cpu, atFetch_cpu] at cpu
  refine ⟨?_, fun r => ?_, ?_, by rw [cycles, ← atFetch_params s]; rfl⟩
  · rcases cpu with e | e | ⟨i, e⟩ <;> rw [e] <;> exact hs
  · cases r <;> rcases cpu with e | e | ⟨i, e⟩ <;> simp only [getReg, e, dispatchedCpu]
  · rcases cpu with e | e | ⟨i, e⟩ <;> simp only [e, dispatchedCpu]

theorem exec_halt_next (s : State) : exec Form.halt.toInstr s = .next { s with cpu := { s.cpu with halted := true }, cycles := cost .halt s } := rfl

/-- Settles O9: an idle step is `devices` after `idle`; the resolve of `HALT`'s own step wakes it (`devices_wake`); a stopped step leaves all but
what a dispatch writes (`step_stopped`). -/
theorem idleAndStopped : Obligations.IdleAndStopped := by
  refine ⟨fun s t hi hd => ?_, fun s t hh hs hime pend hp hr h => ?_, fun s t hs h => step_stopped hs h⟩
  · have idled : devices (idle (atFetch s)) = .ok t := by
      rw [← atFetch_params s] at hd
      exact hd
    exact (step_idle s (isIdle_eq_true hi)).trans (devicesOut_of_ok idled)
  · obtain ⟨u, he, hd⟩ := step_oneByte hh hs hp rfl hr h
    obtain rfl := Host.Outcome.next.inj ((exec_halt_next (setPc ((atFetch s).cpu.pc + 1) (atFetch s))).symm.trans he)
    rw [devices_wake hd hime rfl pend]
    exact ⟨rfl, rfl⟩

/-! ### The system instructions, and the latch's hazards (R280 to R284, R390, R391) -/

theorem exec_ei_deferred {s : State} (h : s.params.imeDefer = .deferred) :
    exec Form.ei.toInstr s = .next { s with cpu := { s.cpu with imePending := .enable }, cycles := cost .ei s } := by
  rw [exec_toInstr, runForm, eiOp, h]
  rfl

theorem exec_di_deferred {s : State} (h : s.params.imeDefer = .deferred) :
    exec Form.di.toInstr s = .next { s with cpu := { s.cpu with imePending := .disable }, cycles := cost .di s } := by
  rw [exec_toInstr, runForm, diOp, h]
  rfl

/-- Settles O40: the meanings of `NOP`, `HALT`, `STOP` compute; those of `EI` and `DI` do once `IME_DEFER` is known. -/
theorem systemInstructions : Obligations.SystemInstructions := by
  refine fun s pad => ⟨rfl, exec_halt_next s, rfl, fun h => ⟨exec_ei_deferred h, exec_di_deferred h⟩, fun h => ⟨?_, ?_⟩⟩
  · rw [exec_toInstr, runForm, eiOp, h]
    rfl
  · rw [exec_toInstr, runForm, diOp, h]
    rfl

/-- Settles O11: `EI` writes the latch alone, and with `IME = 0` its step dispatches nothing (`devices_off`); the dispatch in the step of `DI`
clears the latch `DI` has set (`devices_dispatch`). -/
theorem deferredLatchHazards : Obligations.DeferredLatchHazards := by
  refine ⟨fun s t deferred hh hs hime hp hr h => ?_, fun s t deferred hh hs hime pend hp hr h => ?_⟩
  · obtain ⟨u, he, hd⟩ := step_oneByte hh hs hp rfl hr h
    obtain rfl := Host.Outcome.next.inj ((exec_ei_deferred (s := setPc ((atFetch s).cpu.pc + 1) (atFetch s)) deferred).symm.trans he)
    obtain ⟨ime, e | e⟩ := devices_off hd hime <;> rw [e] <;> exact ⟨ime, rfl, rfl, rfl⟩
  · obtain ⟨u, he, hd⟩ := step_oneByte hh hs hp rfl hr h
    obtain rfl := Host.Outcome.next.inj ((exec_di_deferred (s := setPc ((atFetch s).cpu.pc + 1) (atFetch s)) deferred).symm.trans he)
    obtain ⟨i, hi, e, ime⟩ := devices_dispatch hd hime pend
    rw [e]
    refine ⟨?_, rfl, ime, rfl⟩
    have vectors : ∀ i < 5, interruptVector i = 0x40 ∨ interruptVector i = 0x48 ∨ interruptVector i = 0x50 ∨ interruptVector i = 0x58 ∨
      interruptVector i = 0x60 := by decide
    exact vectors i hi

end Sys2Proof.Machine

/-! ## The cartridge's windows (20_memory.md R70 to R88) -/

namespace Sys2Proof.Machine

/-! ### Reads -/

/-- Below 0x8000 every kind reads its image. -/
theorem cartRead_rom {p : Params} {c : Cart} {a : Word} (h : a.toNat < 0x8000) : cartRead p c a = romRead c.image a (imageOffset c.mbc a.toNat) := by
  obtain ⟨img, mbc⟩ := c
  cases mbc with
  | romOnly =>
    have same : imageOffset .romOnly a.toNat = a.toNat := by rw [imageOffset]; split <;> rfl
    simp only [cartRead, if_pos h, same]
  | mbc1 m =>
    simp only [cartRead, mbc1Read, imageOffset, if_pos h]
    split <;> rfl
  | mbc2 m =>
    simp only [cartRead, mbc2Read, imageOffset, if_pos h]
    split <;> rfl

theorem romRead_ok {img : Image} {a : Word} {offset : Nat} (h : offset < img.len) : romRead img a offset = .ok (img.cells.read offset) := if_pos h

theorem romRead_beyond {img : Image} {a : Word} {offset : Nat} (h : img.len ≤ offset) : romRead img a offset = .error (.cartOutOfRange a offset) :=
  if_neg (by omega)

/-- MBC1's RAM window (R80). -/
theorem mbc1Read_ram {p : Params} {img : Image} {m : Mbc1} {a : Word} (h : 0x8000 ≤ a.toNat) :
    mbc1Read p img m a =
      .ok (if m.ramEnabled = true ∧ mbc1RamOffset m a < p.cartRamSize.mbc1 then m.cram.read (mbc1RamOffset m a) else p.cartRamOffRead) := by
  rw [mbc1Read, if_neg (by omega), if_neg (by omega)]
  split <;> rfl

/-- MBC2's RAM window (R85). -/
theorem mbc2Read_ram {p : Params} {img : Image} {m : Mbc2} {a : Word} (h : 0x8000 ≤ a.toNat) :
    mbc2Read p img m a = .ok (if mbc2RamAt p m a then m.cram.read (a.toNat - 0xA000) &&& 0x0F else p.cartRamOffRead) := by
  rw [mbc2Read, if_neg (by omega), if_neg (by omega)]
  split <;> rfl

/-- A read of the RAM window completes. -/
theorem cartRead_ram_completes {p : Params} {c : Cart} {a : Word} (h : 0x8000 ≤ a.toNat) : ∃ b, cartRead p c a = .ok b := by
  unfold cartRead
  split
  · exact ⟨_, if_neg (by omega)⟩
  · exact ⟨_, mbc1Read_ram h⟩
  · exact ⟨_, mbc2Read_ram h⟩

/-! ### Writes -/

/-- R77. -/
theorem mbc1Write_mode {p : Params} {m : Mbc1} {a : Word} {v : Byte} (h : 0x6000 ≤ a.toNat) (h' : a.toNat < 0x8000) :
    mbc1Write p m a v = { m with romBankingMode := !v.getLsbD 0 } := by
  rw [mbc1Write, if_neg (by omega), if_neg (by omega), if_neg (by omega), if_pos h', mbc1SetMode]

/-- R80. -/
theorem mbc1Write_ram {p : Params} {m : Mbc1} {a : Word} {v : Byte} (h : 0x8000 ≤ a.toNat) :
    mbc1Write p m a v =
      if m.ramEnabled = true ∧ mbc1RamOffset m a < p.cartRamSize.mbc1 then { m with cram := m.cram.write (mbc1RamOffset m a) v } else m := by
  rw [mbc1Write, if_neg (by omega), if_neg (by omega), if_neg (by omega), if_neg (by omega)]

/-- R81. -/
theorem mbc2Write_enable {p : Params} {m : Mbc2} {a : Word} {v : Byte} (h : a.toNat < 0x2000) :
    mbc2Write p m a v = { m with ramEnabled := decide (v.toNat % 16 = 0xA) } := by
  rw [mbc2Write, if_pos h, enable_nibble]

/-- R82, R83: the bank register answers where address bit 8 is 1. -/
theorem mbc2Write_bank {p : Params} {m : Mbc2} {a : Word} {v : Byte} (h : 0x2000 ≤ a.toNat) (h' : a.toNat < 0x4000) :
    mbc2Write p m a v = if a.getLsbD 8 then { m with romBank := mbc2Bank v } else m := by
  rw [mbc2Write, if_neg (by omega), if_pos h']

theorem mbc2Write_none {p : Params} {m : Mbc2} {a : Word} {v : Byte} (h : 0x4000 ≤ a.toNat) (h' : a.toNat < 0x8000) : mbc2Write p m a v = m := by
  rw [mbc2Write, if_neg (by omega), if_neg (by omega), if_pos h']

/-- R85. -/
theorem mbc2Write_ram {p : Params} {m : Mbc2} {a : Word} {v : Byte} (h : 0x8000 ≤ a.toNat) :
    mbc2Write p m a v = if mbc2RamAt p m a then { m with cram := m.cram.write (a.toNat - 0xA000) (v &&& 0x0F) } else m := by
  rw [mbc2Write, if_neg (by omega), if_neg (by omega), if_neg (by omega)]

theorem getLsbD_eight (a : Word) : a.getLsbD 8 = decide (a.toNat / 256 % 2 = 1) := by
  rw [BitVec.getLsbD, Nat.testBit_eq_decide_div_mod_eq]

theorem not_bit_zero (v : Byte) : (!v.getLsbD 0) = decide (v.toNat % 2 = 0) := by
  revert v
  decide

/-- Settles O21: the address selects the operation (`mbc1Write_mode`, `mbc1Write_ram`), reads below 0x8000 go to the image (`cartRead_rom`), and the
RAM reads back by `Memory.read_write_same`. -/
theorem mbc1Windows : Obligations.Mbc1Windows := by
  intro p img m a v
  refine ⟨fun h h' => ?_, fun h hl => ?_, fun h h' hl => ?_, fun h h' => ?_, fun h h' on small => ?_, fun h h' off => ?_⟩
  · simp only [cartWrite, mbc1Write_mode h h', not_bit_zero]
  · rw [cartRead_rom (by omega), imageOffset, if_pos h]
    exact romRead_ok hl
  · rw [cartRead_rom h', imageOffset, if_neg (by omega)]
    exact romRead_ok hl
  · have bank := m.ramBank.isLt
    omega
  · have answers : m.ramEnabled = true ∧ mbc1RamOffset m a < p.cartRamSize.mbc1 := ⟨on, small⟩
    have written : mbc1Write p m a v = { m with cram := m.cram.write (mbc1RamOffset m a) v } := by rw [mbc1Write_ram (by omega), if_pos answers]
    refine ⟨?_, ?_, ?_⟩
    · simp only [cartRead, mbc1Read_ram (show 0x8000 ≤ a.toNat by omega), if_pos answers]
      rfl
    · simp only [cartWrite, written]
      rfl
    · simp only [cartWrite, written, cartRead, mbc1Read_ram (show 0x8000 ≤ a.toNat by omega)]
      exact congrArg _ ((if_pos answers).trans (Memory.read_write_same ..))
  · have silent : ¬ (m.ramEnabled = true ∧ mbc1RamOffset m a < p.cartRamSize.mbc1) := by
      rintro ⟨on, small⟩
      rcases off with off | big
      · rw [on] at off
        cases off
      · exact absurd small (Nat.not_lt.mpr big)
    refine ⟨?_, ?_⟩
    · simp only [cartRead, mbc1Read_ram (show 0x8000 ≤ a.toNat by omega), if_neg silent]
    · simp only [cartWrite, mbc1Write_ram (show 0x8000 ≤ a.toNat by omega), if_neg silent]

/-- Settles O22: as MBC1, by `mbc2Write_enable`, `mbc2Write_bank`, `mbc2Write_ram`; a ROM-only cartridge has no state. -/
theorem mbc2AndRomOnly : Obligations.Mbc2AndRomOnly := by
  refine ⟨fun p img m a v => ⟨fun h => ?_, fun h h' odd => ?_, fun h h' even => ?_, fun h h' => ?_, fun h hl => ?_, fun h h' hl => ?_,
    fun h h' on small => ?_, fun h h' off => ?_⟩, fun p img a v => ⟨rfl, fun h hl => ?_, fun h h' => ?_⟩⟩
  · simp only [cartWrite, mbc2Write_enable h]
  · simp only [cartWrite, mbc2Write_bank h h', getLsbD_eight, odd, decide_true, if_true, mbc2Bank_eq]
  · simp only [cartWrite, mbc2Write_bank h h', getLsbD_eight, even, Nat.zero_ne_one, decide_false, Bool.false_eq_true, if_false]
  · simp only [cartWrite, mbc2Write_none h h']
  · rw [cartRead_rom (by omega), imageOffset, if_pos h]
    exact romRead_ok hl
  · rw [cartRead_rom h', imageOffset, if_neg (by omega)]
    exact romRead_ok hl
  · have answers : mbc2RamAt p m a := ⟨h', on, small⟩
    have written : mbc2Write p m a v = { m with cram := m.cram.write (a.toNat - 0xA000) (v &&& 0x0F) } := by
      rw [mbc2Write_ram (by omega), if_pos answers]
    have nibble : v &&& 0x0F &&& 0x0F = v &&& 0x0F := by rw [BitVec.and_assoc, BitVec.and_self]
    refine ⟨?_, ?_⟩
    · simp only [cartRead, mbc2Read_ram (show 0x8000 ≤ a.toNat by omega), if_pos answers]
    · simp only [cartWrite, written, cartRead, mbc2Read_ram (show 0x8000 ≤ a.toNat by omega)]
      rw [if_pos answers, Memory.read_write_same, nibble]
  · have silent : ¬ mbc2RamAt p m a := by
      rintro ⟨low, on, small⟩
      rcases off with off | high | big
      · rw [on] at off
        cases off
      · omega
      · omega
    refine ⟨?_, ?_⟩
    · simp only [cartRead, mbc2Read_ram (show 0x8000 ≤ a.toNat by omega), if_neg silent]
    · simp only [cartWrite, mbc2Write_ram (show 0x8000 ≤ a.toNat by omega), if_neg silent]
  · rw [cartRead_rom h, imageOffset]
    split <;> exact romRead_ok hl
  · exact if_neg (by omega)

/-! ### Which reads a cartridge write leaves -/

/-- The ROM bank changes by a write to its registers alone. -/
theorem imageOffset_cartWrite {p : Params} {c : Cart} {a : Word} {v : Byte} {b : Nat} (h : b < 0x4000 ∨ ¬ (0x2000 ≤ a.toNat ∧ a.toNat < 0x6000)) :
    imageOffset (cartWrite p c a v).mbc b = imageOffset c.mbc b := by
  unfold imageOffset
  split
  · rfl
  · next hb =>
    have ha := h.resolve_left hb
    obtain ⟨img, mbc⟩ := c
    cases mbc with
    | romOnly => rfl
    | mbc1 m =>
      have bank : (mbc1Write p m a v).romBank = m.romBank := by
        by_cases h1 : a.toNat < 0x2000
        · rw [mbc1Write_enable h1]
        by_cases h2 : a.toNat < 0x8000
        · rw [mbc1Write_mode (by omega) h2]
        rw [mbc1Write_ram (by omega)]
        split <;> rfl
      simp only [cartWrite, bank]
    | mbc2 m =>
      have bank : (mbc2Write p m a v).romBank = m.romBank := by
        by_cases h1 : a.toNat < 0x2000
        · rw [mbc2Write_enable h1]
        by_cases h2 : a.toNat < 0x8000
        · rw [mbc2Write_none (by omega) h2]
        rw [mbc2Write_ram (by omega)]
        split <;> rfl
      simp only [cartWrite, bank]

/-- MBC1's RAM window after a write to none of the registers that select it, and to another of its cells. -/
theorem mbc1Read_ram_write {p : Params} {img : Image} {m : Mbc1} {a b : Word} {v : Byte} (hb : 0xA000 ≤ b.toNat) (ha : inCart a.toNat)
    (hr : (0x2000 ≤ a.toNat ∧ a.toNat < 0x4000) ∨ 0x6000 ≤ a.toNat) (hne : b.toNat ≠ a.toNat) :
    mbc1Read p img (mbc1Write p m a v) b = mbc1Read p img m b := by
  rw [mbc1Read_ram (by omega), mbc1Read_ram (by omega)]
  by_cases h1 : a.toNat < 0x4000
  · rw [mbc1Write_low (by omega) h1]
    rfl
  by_cases h2 : a.toNat < 0x8000
  · rw [mbc1Write_mode (by omega) h2]
    rfl
  rw [mbc1Write_ram (by omega)]
  split
  · have other : mbc1RamOffset m b ≠ mbc1RamOffset m a := by
      unfold inCart at ha
      unfold mbc1RamOffset
      omega
    have cell : (m.cram.write (mbc1RamOffset m a) v).read (mbc1RamOffset m b) = m.cram.read (mbc1RamOffset m b) :=
      Memory.read_write_other _ _ _ _ other
    simp only [← cell]
    rfl
  · rfl

/-- The same for MBC2. -/
theorem mbc2Read_ram_write {p : Params} {img : Image} {m : Mbc2} {a b : Word} {v : Byte} (hb : 0xA000 ≤ b.toNat) (ha : inCart a.toNat)
    (hr : 0x2000 ≤ a.toNat) (hne : b.toNat ≠ a.toNat) : mbc2Read p img (mbc2Write p m a v) b = mbc2Read p img m b := by
  rw [mbc2Read_ram (by omega), mbc2Read_ram (by omega)]
  by_cases h1 : a.toNat < 0x4000
  · rw [mbc2Write_bank hr h1]
    split <;> rfl
  by_cases h2 : a.toNat < 0x8000
  · rw [mbc2Write_none (by omega) h2]
  rw [mbc2Write_ram (by omega)]
  split
  · have other : b.toNat - 0xA000 ≠ a.toNat - 0xA000 := by
      unfold inCart at ha
      omega
    have cell : (m.cram.write (a.toNat - 0xA000) (v &&& 0x0F)).read (b.toNat - 0xA000) = m.cram.read (b.toNat - 0xA000) :=
      Memory.read_write_other _ _ _ _ other
    simp only [← cell]
  · rfl

/-- A cartridge write changes no read of the cartridge but those `mayChange` names. -/
theorem cartRead_cartWrite {p : Params} {c : Cart} {a b : Word} {v : Byte} (ha : inCart a.toNat) (hb : inCart b.toNat)
    (h : mayChange a b = false) : cartRead p (cartWrite p c a v) b = cartRead p c b := by
  by_cases low : b.toNat < 0x8000
  · have bank : b.toNat < 0x4000 ∨ ¬ (0x2000 ≤ a.toNat ∧ a.toNat < 0x6000) := by
      simp only [mayChange] at h
      split_ifs at h <;> simp only [decide_eq_false_iff_not] at h <;> omega
    rw [cartRead_rom low, cartRead_rom low, cartWrite_image, imageOffset_cartWrite bank]
  · have hb' : 0xA000 ≤ b.toNat ∧ b.toNat < 0xC000 := by
      unfold inCart at hb
      omega
    have hr : ((0x2000 ≤ a.toNat ∧ a.toNat < 0x4000) ∨ 0x6000 ≤ a.toNat) ∧ b.toNat ≠ a.toNat := by
      simp only [mayChange] at h
      unfold inCart at ha
      split_ifs at h <;> simp only [decide_eq_false_iff_not] at h <;> omega
    obtain ⟨hr, hne⟩ := hr
    obtain ⟨img, mbc⟩ := c
    cases mbc with
    | romOnly => rfl
    | mbc1 m => exact mbc1Read_ram_write hb'.1 ha hr hne
    | mbc2 m => exact mbc2Read_ram_write hb'.1 ha (by omega) hne

end Sys2Proof.Machine

/-! ## The bus (20_memory.md R52 to R59, R88) -/

namespace Sys2Proof.Machine

/-! ### What a read does not depend on -/

/-- A read depends on the byte of `M` at its own address alone. -/
theorem memRead_withMem {b : Word} {s : State} {m : Memory} (h : m.read b.toNat = s.mem.read b.toNat) :
    memRead b { s with mem := m } = memRead b s := by
  simp [memRead, highRead, h, joypadRead]

/-- A read outside the cartridge's windows does not depend on the cartridge. -/
theorem memRead_withCart {b : Word} {s : State} {c : Cart} (h : ¬ inCart b.toNat) : memRead b { s with cart := c } = memRead b s := by
  unfold inCart at h
  simp only [memRead, if_neg h]
  rfl

/-- The twelve pixel-unit registers. -/
theorem ppuRegister_cases {a : Nat} (h : 0xFF40 ≤ a ∧ a ≤ 0xFF4B) :
    a = 0xFF40 ∨ a = 0xFF41 ∨ a = 0xFF42 ∨ a = 0xFF43 ∨ a = 0xFF44 ∨ a = 0xFF45 ∨ a = 0xFF46 ∨ a = 0xFF47 ∨ a = 0xFF48 ∨ a = 0xFF49 ∨
      a = 0xFF4A ∨ a = 0xFF4B := by
  omega

theorem ppuRegister_setPpuRegister_other {p : PixelUnit} {a b : Nat} {v : Byte} (ha : 0xFF40 ≤ a ∧ a ≤ 0xFF4B) (hb : 0xFF40 ≤ b ∧ b ≤ 0xFF4B)
    (h : b ≠ a) : ppuRegister (setPpuRegister p a v) b = ppuRegister p b := by
  rcases ppuRegister_cases ha with rfl | rfl | rfl | rfl | rfl | rfl | rfl | rfl | rfl | rfl | rfl | rfl
  all_goals
    rcases ppuRegister_cases hb with rfl | rfl | rfl | rfl | rfl | rfl | rfl | rfl | rfl | rfl | rfl | rfl <;> try rfl
    exact absurd rfl h

/-- A pixel-unit register written is read at its own address alone. -/
theorem memRead_withPpuRegister {a : Nat} {b : Word} {v : Byte} {s : State} (ha : 0xFF40 ≤ a ∧ a ≤ 0xFF4B) (h : b.toNat ≠ a) :
    memRead b { s with ppu := setPpuRegister s.ppu a v } = memRead b s := by
  by_cases hb : 0xFF40 ≤ b.toNat ∧ b.toNat ≤ 0xFF4B
  · rw [memRead_high _ _ (by omega), memRead_high _ _ (by omega)]
    unfold highRead
    rw [ppuRegister_setPpuRegister_other ha hb h]
  · unfold memRead highRead
    rw [if_neg hb, if_neg hb]

/-- A register's write is read at its own address alone. -/
theorem memRead_highWrite_other {a : Nat} {b : Word} {v : Byte} {s : State} (ha : inRegisters a) (h : b.toNat ≠ a) :
    memRead b (highWrite a v s) = memRead b s := by
  rcases highWrite_register a v s ha with
    ⟨rfl, e⟩ | ⟨rfl, e⟩ | ⟨rfl, e⟩ | ⟨rfl, e⟩ | ⟨rfl, e⟩ | ⟨rfl, e⟩ | ⟨⟨h1, h2, -⟩, e⟩ | ⟨rfl, e⟩ <;> rw [e]
  case inr.inr.inr.inr.inr.inr.inl => exact memRead_withPpuRegister ⟨h1, h2⟩ h
  all_goals simp only [memRead, highRead, if_neg h]

/-- What `mayChange` names for each region: work RAM's cell and mirror, a plain cell, a register, the DMA register with OAM. -/
theorem mayChange_work {a b : Word} (ha : isWork a.toNat = true) (h : mayChange a b = false) :
    ¬ (b.toNat = a.toNat ∨ (a.toNat < 0xDE00 ∧ b.toNat = a.toNat + 0x2000) ∨ (0xE000 ≤ a.toNat ∧ b.toNat = a.toNat - 0x2000)) := by
  rw [isWork_iff] at ha
  simp only [mayChange] at h
  split_ifs at h <;> simp only [decide_eq_false_iff_not] at h <;> omega

theorem mayChange_plain {a b : Word} (ha : isPlain a.toNat = true) (h : mayChange a b = false) : b.toNat ≠ a.toNat := by
  rw [isPlain_iff] at ha
  simp only [mayChange] at h
  split_ifs at h <;> simp only [decide_eq_false_iff_not] at h <;> omega

theorem mayChange_register {a b : Word} (ha : inRegisters a.toNat) (h : mayChange a b = false) : b.toNat ≠ a.toNat := by
  unfold inRegisters at ha
  simp only [mayChange] at h
  split_ifs at h <;> simp only [decide_eq_false_iff_not] at h <;> omega

theorem mayChange_dma {a b : Word} (ha : a.toNat = 0xFF46) (h : mayChange a b = false) :
    b.toNat ≠ 0xFF46 ∧ ¬ (0xFE00 ≤ b.toNat ∧ b.toNat < 0xFEA0) := by
  simp only [mayChange] at h
  split_ifs at h <;> simp only [decide_eq_false_iff_not] at h <;> omega

/-- Settles O19: by the region the write falls in (`memWrite_cases`). -/
theorem busWriteFootprint : Obligations.BusWriteFootprint := by
  intro a b v s t hw h
  rcases memWrite_cases hw with ⟨hr, rfl⟩ | ⟨hr, rfl⟩ | ⟨hr, rfl⟩ | ⟨-, rfl⟩ | ⟨hr, hd⟩ | ⟨hr, rfl⟩
  · by_cases hb : inCart b.toNat
    · rw [memRead_cart b _ hb, memRead_cart b _ hb]
      exact cartRead_cartWrite hr hb h
    · exact memRead_withCart hb
  · rw [workWrite_eq]
    exact memRead_withMem ((workWrite_read ..).trans (if_neg (mayChange_work hr h)))
  · exact memRead_setCell_other b _ v s (mayChange_plain hr h)
  · rfl
  · obtain ⟨e, keep, -⟩ := dmaWrite_ok hd
    obtain ⟨hreg, hoam⟩ := mayChange_dma hr h
    rw [e]
    calc memRead b { s with ppu := { s.ppu with dma := v }, mem := t.mem }
        = memRead b { s with ppu := { s.ppu with dma := v } } := memRead_withMem (s := { s with ppu := { s.ppu with dma := v } }) (keep _ hoam)
      _ = memRead b s := memRead_withPpuRegister (a := 0xFF46) (by omega) hreg
  · exact memRead_highWrite_other hr (mayChange_register hr h)

/-! ### The map, line by line -/

/-- The addresses no earlier line of the map matches are the plain cells and work RAM. -/
theorem plain_or_work_of_noEarlierLine {a : Word} (h : NoEarlierLine a) : isPlain a.toNat = true ∨ isWork a.toNat = true := by
  have number (k : Nat) (hk : a ≠ BitVec.ofNat 16 k) : a.toNat ≠ k := fun e => hk (by rw [← e, BitVec.ofNat_toNat, BitVec.setWidth_eq])
  obtain ⟨h1, h2, h3, h4, h5, h6, h7, h8, h9, h10, h11⟩ := h
  have lt := a.isLt
  have n4 := number 0xFF00 h4
  have n5 := number 0xFF04 h5
  have n6 := number 0xFF05 h6
  have n7 := number 0xFF06 h7
  have n8 := number 0xFF07 h8
  have n9 := number 0xFF0F h9
  have n11 := number 0xFFFF h11
  rw [isPlain_iff, isWork_iff]
  omega

/-- Settles O14: each line's region has its lemma (`memRead_cart`, `memRead_restricted`, `memRead_plain`, `memRead_work`); a register's address is
a literal, at which the read computes. -/
theorem busReadMap : Obligations.BusReadMap := by
  intro a s
  refine ⟨memRead_cart a s, memRead_restricted a s, ?_, ?_, ?_, ?_, ?_, ?_, ?_, ?_, ?_, ?_, ?_, ?_, ?_, ?_, ?_, ?_, ?_, ?_, ?_, fun h => ?_⟩
  case refine_20 =>
    rcases plain_or_work_of_noEarlierLine h with h | h
    · exact memRead_plain a s h
    · exact memRead_work a s h
  all_goals
    rintro rfl
    rfl

/-- Settles O15: as O14, by `memWrite_cart`, `memWrite_work`, `memWrite_restricted` and `memWrite_plain`. -/
theorem busWriteMap : Obligations.BusWriteMap := by
  intro a v s
  have work (h : 0xC000 ≤ a.toNat ∧ a.toNat < 0xFE00) : memWrite a v s = .ok (workWrite a.toNat v s) :=
    memWrite_work a v s ((isWork_iff _).mpr h)
  refine ⟨memWrite_cart a v s, fun h => ?_, fun h => ?_, fun h => ?_, memWrite_restricted a v s,
    ?_, ?_, ?_, ?_, ?_, ?_, ?_, ?_, ?_, ?_, ?_, ?_, ?_, ?_, ?_, ?_, ?_, ?_, fun h hr => ?_⟩
  case refine_1 =>
    rw [work (by omega), workWrite, if_pos (by omega)]
    rfl
  case refine_2 =>
    rw [work (by omega), workWrite, if_neg (by omega), if_pos (by omega)]
    rfl
  case refine_3 =>
    rw [work (by omega), workWrite, if_neg (by omega), if_neg (by omega)]
    rfl
  case refine_22 =>
    rcases plain_or_work_of_noEarlierLine h with h | h
    · exact memWrite_plain a v s h
    · rw [isWork_iff] at h
      omega
  all_goals
    rintro rfl
    rfl

/-! ### Cells, the DMA copy, completion -/

/-- A work RAM write is read at the address and at its mirror. -/
theorem memRead_workWrite {a b : Word} {v : Byte} {s : State} (hb : isWork b.toNat = true)
    (h : b.toNat = a.toNat ∨ (a.toNat < 0xDE00 ∧ b.toNat = a.toNat + 0x2000) ∨ (0xE000 ≤ a.toNat ∧ b.toNat = a.toNat - 0x2000)) :
    memRead b (workWrite a.toNat v s) = .ok v := by
  rw [memRead_work _ _ hb, workWrite_read, if_pos h]

/-- Settles O16: the byte reads back at the cell or its mirror; the rest is the footprint of the write (O19). -/
theorem cellsReadBack : Obligations.CellsReadBack := by
  refine ⟨fun a v s h => ?_, fun a b v s h1 h2 hb => ?_⟩
  · rcases h with h | h
    · exact ⟨_, memWrite_plain a v s h, memRead_setCell_same a v s (.inl h), fun b => busWriteFootprint a b v s _ (memWrite_plain a v s h)⟩
    · exact ⟨_, memWrite_work a v s h, memRead_workWrite h (.inl rfl), fun b => busWriteFootprint a b v s _ (memWrite_work a v s h)⟩
  · have wa : isWork a.toNat = true := (isWork_iff _).mpr (by omega)
    have wb : isWork b.toNat = true := (isWork_iff _).mpr (by omega)
    exact ⟨⟨_, memWrite_work a v s wa, memRead_workWrite wa (by omega), memRead_workWrite wb (by omega)⟩,
      ⟨_, memWrite_work b v s wb, memRead_workWrite wa (by omega), memRead_workWrite wb (by omega)⟩⟩

/-- Whether an address can be read does not depend on a pixel-unit register. -/
theorem memRead_completes_withPpu {a : Word} {s : State} {p : PixelUnit} :
    (∃ b, memRead a { s with ppu := p } = .ok b) ↔ ∃ b, memRead a s = .ok b := by
  simp only [memRead]
  split
  · rfl
  · split <;> simp

/-- Settles O18: reads below 0x8000 are the image's (`cartRead_rom`); completion and frame of writes are `memWrite_completes`, `memWrite_kept` and
`memWrite_kind`. -/
theorem busCompletesAndKeeps : Obligations.BusCompletesAndKeeps := by
  refine ⟨fun a s => ⟨fun h => ?_, fun h hl => ?_⟩, fun a v s => ⟨memWrite_completes a v s, fun t h => ?_⟩⟩
  · by_cases rom : a.toNat < 0x8000
    · rw [memRead_cart a s (.inl rom), cartRead_rom rom]
      exact ⟨_, romRead_ok (h.resolve_left (by omega))⟩
    · by_cases ram : 0xA000 ≤ a.toNat ∧ a.toNat < 0xC000
      · rw [memRead_cart a s (.inr ram)]
        exact cartRead_ram_completes (by omega)
      · exact memRead_total a s (by omega) ram
  · rw [memRead_cart a s (.inl h), cartRead_rom h]
    exact romRead_beyond hl
  · have k := memWrite_kept h
    exact ⟨k.cpu, k.ime, k.timaAcc, k.mode, k.acc, k.fb, k.image, memWrite_kind h, k.params, k.cycles, k.hostActs, k.handedFrame, k.buttons⟩

end Sys2Proof.Machine

namespace Sys2Proof

open Machine in
/-- Settles O17: the copy loop's two lemmas, `dmaWrite_ok` for its result and `dmaCopy_completes` for when there is one. -/
theorem dmaCopy : Obligations.DmaCopy := by
  intro v s
  have trigger : memWrite 0xFF46 v s = dmaWrite v s := memWrite_dma _ _ _ rfl
  rw [trigger]
  refine ⟨fun t h => ?_, ?_⟩
  · obtain ⟨e, keep, copied⟩ := dmaWrite_ok h
    exact ⟨copied, keep, e⟩
  · refine (dmaCopy_completes v 160 0 _ (by omega)).trans ?_
    simp only [memRead_completes_withPpu]
    exact ⟨fun h i hi => h i (by omega) (by omega), fun h i _ hi => h i (by omega)⟩

end Sys2Proof

/-! ## Loads, the stack and control transfer (40_load8.md, 41_load16_stack.md, 45_control.md, 46_system.md) -/

namespace Sys2Proof.Machine

/-- A form whose shared operation completes. -/
theorem exec_of_ok {f : Form} {s t : State} {r : Except Fault State} (hf : runForm f s = finish (cost f s) r) (h : r = .ok t) :
    exec f.toInstr s = .next { t with cycles := cost f s } := by
  rw [exec_toInstr, hf, h]
  rfl

/-- A conditional form, taken or not. -/
theorem exec_of_okIf {f : Form} {s t : State} {b : Bool} {r : Except Fault (Bool × State)}
    (hf : runForm f s = finishIf (cost f s) (costNotTaken f s) r) (h : r = .ok (b, t)) :
    exec f.toInstr s = .next { t with cycles := if b then cost f s else costNotTaken f s } := by
  rw [exec_toInstr, hf, h]
  cases b <;> rfl

/-! ### 8-bit loads and stores -/

theorem loadAAt_ok {a : Word} {v : Byte} {s : State} (h : memRead a s = .ok v) : loadAAt a s = .ok (setReg .a v s) := by
  simp only [loadAAt, bind, Except.bind, h]

theorem loadAAtPtr_ok {p : Pointer} {v : Byte} {s : State} (h : memRead (pointerAddr p s) s = .ok v) :
    loadAAtPtr p s = .ok (pointerStep p (setReg .a v s)) := by
  simp only [loadAAtPtr, bind, Except.bind, loadAAt_ok h]

theorem storeAAtPtr_ok {p : Pointer} {s t : State} (h : memWrite (pointerAddr p s) s.cpu.a s = .ok t) : storeAAtPtr p s = .ok (pointerStep p t) := by
  simp only [storeAAtPtr, storeAAt, bind, Except.bind, h]

theorem ldFromHL_ok {dst : Reg8} {v : Byte} {s : State} (h : memRead (getHL s) s = .ok v) : ldFromHL dst s = .ok (setReg dst v s) := by
  simp only [ldFromHL, bind, Except.bind, h]

/-- A bus write leaves `HL`. -/
theorem getHL_memWrite {a : Word} {v : Byte} {s t : State} (h : memWrite a v s = .ok t) : getHL t = getHL s := by
  rw [getHL, (memWrite_kept h).cpu, getHL]

/-- Settles O23: each form's operation is a read and `setReg`. -/
theorem loadByte : Obligations.LoadByte := by
  refine ⟨fun s dst r n => ⟨exec_of_ok (f := .ldReg dst r) rfl rfl, exec_of_ok (f := .ldN (.reg dst) n) rfl rfl, fun v r' => getReg_setReg r' dst v s⟩,
    fun s v => ⟨fun dst h => exec_of_ok (f := .ldFromHL dst) rfl (ldFromHL_ok h), fun h => exec_of_ok (f := .ldAAtPtr .bc) rfl (loadAAtPtr_ok h),
      fun h => exec_of_ok (f := .ldAAtPtr .de) rfl (loadAAtPtr_ok h), fun h => ⟨exec_of_ok (f := .ldAAtPtr .hlInc) rfl (loadAAtPtr_ok h),
        exec_of_ok (f := .ldAAtPtr .hlDec) rfl (loadAAtPtr_ok h)⟩, fun nn h => exec_of_ok (f := .ldAAtNn nn) rfl (loadAAt_ok h), fun h => ?_, fun n h => ?_⟩⟩
  · rw [← highPage_eq] at h
    exact exec_of_ok (f := .ldhAAtC) rfl (loadAAt_ok h)
  · rw [← highPage_eq] at h
    exact exec_of_ok (f := .ldhAAtN n) rfl (loadAAt_ok h)

/-- Settles O24: each form's operation is a bus write, then the pointer's step. -/
theorem storeByte : Obligations.StoreByte := by
  intro s t
  refine ⟨fun r h => exec_of_ok (f := .ldToHL r) rfl h, fun n h => exec_of_ok (f := .ldN .atHL n) rfl h,
    fun h => exec_of_ok (f := .ldAtPtrA .bc) rfl (storeAAtPtr_ok h), fun h => exec_of_ok (f := .ldAtPtrA .de) rfl (storeAAtPtr_ok h), fun h => ?_,
    fun nn h => exec_of_ok (f := .ldAtNnA nn) rfl h, fun h => ?_, fun n h => ?_⟩
  · rw [← getHL_memWrite h]
    exact ⟨exec_of_ok (f := .ldAtPtrA .hlInc) rfl (storeAAtPtr_ok h), exec_of_ok (f := .ldAtPtrA .hlDec) rfl (storeAAtPtr_ok h)⟩
  · rw [← highPage_eq] at h
    exact exec_of_ok (f := .ldhAtCA) rfl h
  · rw [← highPage_eq] at h
    exact exec_of_ok (f := .ldhAtNA n) rfl h

/-! ### 16-bit loads, the stack -/

theorem pop16_of_onStack {w : Word} {s : State} (h : OnStack w s) : pop16 s = .ok (w, popped s) := pop16_of_reads h.1 h.2

/-- Settles O25: `PUSH` and `POP` by `pushed_iff` and `pop16_of_onStack`. -/
theorem load16AndStack : Obligations.Load16AndStack := by
  refine ⟨fun s nn => ⟨fun p => exec_of_ok (f := .ldPairNn p nn) rfl rfl, exec_of_ok (f := .ldSpHl) rfl rfl, fun s1 s2 h1 h2 => ?_⟩,
    fun s p => ⟨fun t h => exec_of_ok (f := .push p) rfl (pushed_iff.mp h), fun w h => ?_⟩⟩
  · have stored : storeSp nn s = .ok s2 := by simp only [storeSp, bind, Except.bind, h1, h2]
    exact exec_of_ok (f := .ldAtNnSp nn) rfl stored
  · have found : popPair p s = .ok (setStackPair p w (popped s)) := by simp only [popPair, bind, Except.bind, pop16_of_onStack h]
    exact exec_of_ok (f := .pop p) rfl found

/-- A cell's write reads back, whatever completed it. -/
theorem memRead_memWrite_same {a : Word} {v : Byte} {s t : State} (hw : memWrite a v s = .ok t) (h : isPlain a.toNat = true ∨ isWork a.toNat = true) :
    memRead a t = .ok v := by
  obtain ⟨t', hw', read, -⟩ := cellsReadBack.1 a v s h
  rw [hw] at hw'
  cases hw'
  exact read

/-- Neighbouring cells do not mirror each other. -/
theorem mayChange_succ {a b : Word} (ha : isPlain a.toNat = true ∨ isWork a.toNat = true) (hb : b.toNat = a.toNat + 1) : mayChange a b = false := by
  rw [isPlain_iff, isWork_iff] at ha
  simp only [mayChange]
  split_ifs <;> simp only [decide_eq_false_iff_not] <;> omega

/-- Settles O26: the low byte's write leaves the high byte's cell (O19, `mayChange_succ`), and both read back. -/
theorem popFindsPushed : Obligations.PopFindsPushed := by
  intro w s
  refine ⟨fun h1 h2 => ?_, fun t hp c1 c2 => ?_⟩
  · obtain ⟨s1, e1⟩ := memWrite_completes _ (hiByte w) s h1
    obtain ⟨s2, e2⟩ := memWrite_completes _ (loByte w) s1 h2
    exact ⟨_, s1, s2, e1, e2, rfl⟩
  · obtain ⟨s1, s2, e1, e2, rfl⟩ := hp
    have up : s.cpu.sp - 2 + 1 = s.cpu.sp - 1 := by bv_omega
    have back : s.cpu.sp - 2 + 2 = s.cpu.sp := by bv_omega
    have next : (s.cpu.sp - 1).toNat = (s.cpu.sp - 2).toNat + 1 := by
      have low : 0x8000 ≤ (s.cpu.sp - 1).toNat := by
        rw [isPlain_iff, isWork_iff] at c1
        omega
      bv_omega
    have keeps : memRead (s.cpu.sp - 1) s2 = memRead (s.cpu.sp - 1) s1 := busWriteFootprint _ _ _ _ _ e2 (mayChange_succ c2 next)
    have reads (a : Word) : memRead a { s2 with cpu := { s.cpu with sp := s.cpu.sp - 2 } } = memRead a s2 :=
      memRead_congr a rfl rfl rfl rfl rfl rfl rfl rfl
    refine ⟨rfl, ⟨?_, ?_⟩, ?_⟩
    · rw [reads]
      exact memRead_memWrite_same e2 c2
    · rw [reads, show (s.cpu.sp - 2) + 1 = s.cpu.sp - 1 from up, keeps]
      exact memRead_memWrite_same e1 c1
    · simp only [popped, back]

/-! ### Jumps, calls, returns -/

theorem relative_target (pc : Word) (e : Byte) :
    pc + sext16 e = BitVec.ofNat 16 (pc.toNat + (if e.toNat < 0x80 then e.toNat else 0xFF00 + e.toNat)) := by
  apply BitVec.eq_of_toNat_eq
  rw [BitVec.toNat_add, sext16_toNat, BitVec.toNat_ofNat]

/-- Settles O38: a taken jump is `setPc`, one not taken nothing. -/
theorem jumps : Obligations.Jumps := by
  refine ⟨fun s => ⟨rfl, rfl, rfl, rfl⟩, fun s cc nn e => ?_⟩
  simp only [← relative_target]
  refine ⟨exec_of_ok (f := .jpNn nn) rfl rfl, exec_of_ok (f := .jpHl) rfl rfl, exec_of_ok (f := .jr e) rfl rfl, fun h => ?_, fun h => ?_⟩
  · have jumps : jpCc cc nn s = .ok (true, setPc nn s) := by rw [jpCc, h, if_pos rfl]
    have branches : jrCc cc e s = .ok (true, setPc (s.cpu.pc + sext16 e) s) := by rw [jrCc, h, if_pos rfl]
    exact ⟨exec_of_okIf (f := .jpCc cc nn) rfl jumps, exec_of_okIf (f := .jrCc cc e) rfl branches⟩
  · have jumps : jpCc cc nn s = .ok (false, s) := by rw [jpCc, h, if_neg Bool.false_ne_true]
    have branches : jrCc cc e s = .ok (false, s) := by rw [jrCc, h, if_neg Bool.false_ne_true]
    exact ⟨exec_of_okIf (f := .jpCc cc nn) rfl jumps, exec_of_okIf (f := .jrCc cc e) rfl branches⟩

theorem call_of_pushed {nn : Word} {s t : State} (h : Pushed s.cpu.pc s t) : call nn s = .ok (setPc nn t) := by
  simp only [call, bind, Except.bind, pushed_iff.mp h]

theorem ret_of_onStack {w : Word} {s : State} (h : OnStack w s) : ret s = .ok (setPc w (popped s)) := by
  simp only [ret, bind, Except.bind, pop16_of_onStack h]

/-- Settles O39: a call is a push and a jump, a return a pop and a jump. -/
theorem callsAndReturns : Obligations.CallsAndReturns := by
  refine ⟨fun s cc nn r => ⟨fun t h => ⟨exec_of_ok (f := .callNn nn) rfl (call_of_pushed h), exec_of_ok (f := .rst r) rfl (call_of_pushed h),
    fun hc => ?_⟩, fun hc => ?_⟩, fun s cc => ⟨fun w h => ⟨exec_of_ok (f := .ret) rfl (ret_of_onStack h), fun hc => ?_, ?_⟩, fun hc => ?_⟩⟩
  · have taken : callCc cc nn s = .ok (true, setPc nn t) := by simp only [callCc, hc, if_true, bind, Except.bind, call_of_pushed h]
    exact exec_of_okIf (f := .callCc cc nn) rfl taken
  · have not : callCc cc nn s = .ok (false, s) := by rw [callCc, hc, if_neg Bool.false_ne_true]
    exact exec_of_okIf (f := .callCc cc nn) rfl not
  · have taken : retCc cc s = .ok (true, setPc w (popped s)) := by simp only [retCc, hc, if_true, bind, Except.bind, ret_of_onStack h]
    exact exec_of_okIf (f := .retCc cc) rfl taken
  · have returned : reti s = .ok { setPc w (popped s) with ints := { s.ints with ime := true } } := by
      simp only [reti, returnFromInterrupt, bind, Except.bind, pop16_of_onStack h]
      rfl
    exact exec_of_ok (f := .reti) rfl returned
  · have not : retCc cc s = .ok (false, s) := by rw [retCc, hc, if_neg Bool.false_ne_true]
    exact exec_of_okIf (f := .retCc cc) rfl not

/-! ### The undefined bytes -/

theorem mem_undefBytes_iff (op : Byte) :
    op ∈ ([0xD3, 0xDB, 0xDD, 0xE3, 0xE4, 0xEB, 0xEC, 0xED, 0xF4, 0xFC, 0xFD] : List Byte) ↔ ∃ u, op = undefByte u := by
  constructor
  · intro h
    simp only [List.mem_cons, List.not_mem_nil, or_false] at h
    rcases h with h | h | h | h | h | h | h | h | h | h | h
    exacts [⟨.d3, h⟩, ⟨.db, h⟩, ⟨.dd, h⟩, ⟨.e3, h⟩, ⟨.e4, h⟩, ⟨.eb, h⟩, ⟨.ec, h⟩, ⟨.ed, h⟩, ⟨.f4, h⟩, ⟨.fc, h⟩, ⟨.fd, h⟩]
  · rintro ⟨u, rfl⟩
    cases u <;> decide

/-- An undefined row's byte is the one its form encodes to (`encode_decodeBase`). -/
theorem decodeBase_undefined_iff (op b1 b2 : Byte) (u : Undef) : decodeBase op b1 (cat b2 b1) = .undefined u ↔ op = undefByte u := by
  constructor
  · intro h
    have bytes := encode_decodeBase 0 op (cat b2 b1)
    rw [loByte_cat, h] at bytes
    have one : encode 0 (Form.undefined u).toInstr = [undefByte u] := by cases u <;> rfl
    rw [one] at bytes
    rcases (decodeBase op 0 0).length_cases with l | l | l <;> rw [l] at bytes
    · exact (List.cons.inj bytes).1.symm
    all_goals cases bytes
  · rintro rfl
    cases u <;> rfl

/-- Settles O41: by the table (`decodeBase_undefined_iff`), no byte of the extended one being undefined. -/
theorem undefinedBytes : Obligations.UndefinedBytes := by
  refine ⟨fun pfx op b1 b2 => ?_, fun u s => ⟨fun h => ?_, fun h => ?_⟩⟩
  · rw [mem_undefBytes_iff, ← exists_and_left]
    refine exists_congr fun u => ?_
    by_cases hp : op = pfx
    · subst hp
      rw [decodeInstr_prefix]
      refine ⟨fun h => ?_, fun h => absurd rfl h.1⟩
      have forms := congrArg Instr.form h
      rw [Form.toInstr_form, Form.toInstr_form] at forms
      have extended := decodeExtended_extended b1
      rw [forms] at extended
      cases extended
    · rw [decodeInstr_base hp, ← decodeBase_undefined_iff op b1 b2 u]
      refine ⟨fun h => ⟨hp, ?_⟩, fun h => congrArg Form.toInstr h.2⟩
      have forms := congrArg Instr.form h
      rwa [Form.toInstr_form, Form.toInstr_form] at forms
  · rw [exec_toInstr, runForm, undefinedOp, h]
  · rw [exec_toInstr, runForm, undefinedOp, h]
    rfl

end Sys2Proof.Machine

/-! ## 8-bit arithmetic and logic (42_alu8.md) -/

namespace Sys2Proof.Machine

/-! ### The eight operations on A -/

theorem setAluFlags_eq (r : Alu) (s : State) : setAluFlags r s = withF (packFlags r.z r.n r.h r.c) s := setFlags_eq ..

/-- An operation that writes A. -/
theorem aluOn_eq {op : AluOp} {v : Byte} {s : State} {r : Alu} (h : aluWrites op = true) (hr : aluCompute op s.cpu.a v (cf s) = r) :
    aluOn op v s = withAF r.val (packFlags r.z r.n r.h r.c) s := by
  simp only [aluOn, h, if_true, hr, setAluFlags_eq]
  rfl

theorem aluOn_cp {v : Byte} {s : State} : aluOn .cp v s =
    withF (packFlags (subByte s.cpu.a v false).z true (subByte s.cpu.a v false).h (subByte s.cpu.a v false).c) s := by
  simp only [aluOn, aluWrites, Bool.false_eq_true, if_false, setAluFlags_eq]
  rfl

/-- Without a borrow-in the difference is zero for equal operands alone. -/
theorem subByte_z (a v : Byte) : (subByte a v false).z = decide (a = v) := by
  have zero : a - v - BitVec.ofNat 8 false.toNat = 0 ↔ a = v := by
    rw [Bool.toNat_false]
    constructor <;> intro h <;> bv_omega
  exact decide_eq_decide.mpr zero

theorem subByte_val_noBorrow (a v : Byte) : (subByte a v false).val = BitVec.ofNat 8 (a.toNat + 256 - v.toNat) := by
  have hv := v.isLt
  rw [subByte_val]
  apply BitVec.eq_of_toNat_eq
  simp only [Bool.toNat_false, BitVec.toNat_ofNat]
  omega

/-- Settles O27: `addByte`'s fields are the statement's numbers. -/
theorem addWithCarry : Obligations.AddWithCarry := by
  intro src v s h
  refine ⟨?_, ?_⟩
  · rw [exec_alu src .add v s h, aluOn_eq rfl rfl]
    simp only [aluCompute, addByte, isZero_eq, Bool.toNat_false, Nat.add_zero]
  · rw [exec_alu src .adc v s h, aluOn_eq rfl rfl]
    simp only [aluCompute, addByte, isZero_eq]
    rfl

/-- Settles O28: `subByte`'s fields are the statement's numbers (`subByte_val`, `subByte_z`). -/
theorem subtractAndCompare : Obligations.SubtractAndCompare := by
  intro src v s h
  refine ⟨⟨?_, ?_⟩, ?_⟩
  · rw [exec_alu src .sub v s h, aluOn_eq rfl rfl]
    simp only [aluCompute, subByte_val_noBorrow, subByte_z]
    rfl
  · rw [exec_alu src .cp v s h, aluOn_cp, subByte_z]
    rfl
  · have zero : (subByte s.cpu.a v (cf s)).z = isZero (s.cpu.a.toNat + 512 - v.toNat - carryNat s) := by
      rw [← isZero_eq, carryNat, ← subByte_val]
      rfl
    rw [exec_alu src .sbc v s h, aluOn_eq rfl rfl]
    simp only [aluCompute, zero, subByte_val]
    rfl

theorem complement_number (a : Byte) : a ^^^ 0xFF = BitVec.ofNat 8 (255 - a.toNat) := by
  revert a
  decide +kernel

/-- Settles O29: `logicByte`'s fields are the statement's, and the three flag operations are `setFlags`. -/
theorem logicAndFlagOps : Obligations.LogicAndFlagOps := by
  refine ⟨fun src v s h => ⟨?_, ?_, ?_⟩, fun s => ⟨?_, ?_, ?_⟩⟩
  · rw [exec_alu src .and v s h, aluOn_eq rfl rfl]
    rfl
  · rw [exec_alu src .xor v s h, aluOn_eq rfl rfl]
    rfl
  · rw [exec_alu src .or v s h, aluOn_eq rfl rfl]
    rfl
  · have done : cplOp s = .ok (withAF (BitVec.ofNat 8 (255 - s.cpu.a.toNat)) (packFlags (zf s) true true (cf s)) s) := by
      rw [cplOp, setFlags_eq, complement_number]
      rfl
    exact exec_of_ok (f := .cpl) rfl done
  · exact exec_of_ok (f := .scf) rfl (congrArg _ (setFlags_eq ..))
  · exact exec_of_ok (f := .ccf) rfl (congrArg _ (setFlags_eq ..))

/-! ### INC and DEC -/

theorem incByte_val (x : Byte) (c : Bool) : (incByte x c).val = BitVec.ofNat 8 (x.toNat + 1) := by
  apply BitVec.eq_of_toNat_eq
  simp [incByte]

theorem decByte_val (x : Byte) (c : Bool) : (decByte x c).val = BitVec.ofNat 8 (x.toNat + 255) := by
  apply BitVec.eq_of_toNat_eq
  simp only [decByte]
  bv_omega

theorem incByte_z (x : Byte) (c : Bool) : (incByte x c).z = isZero (x.toNat + 1) := by
  rw [← isZero_eq, ← incByte_val x c]
  rfl

theorem decByte_z (x : Byte) (c : Bool) : (decByte x c).z = decide (x = 1) := by
  have zero : x - 1 = 0 ↔ x = 1 := by
    constructor <;> intro h <;> bv_omega
  exact decide_eq_decide.mpr zero

/-- Settles O30: one read, one write, then the flags. -/
theorem incrementDecrement : Obligations.IncrementDecrement := by
  intro s v x h
  refine ⟨fun t hw => ?_, fun t hw => ?_⟩
  · have done : incLoc v s = .ok (withF (packFlags (isZero (x.toNat + 1)) false (decide (x.toNat % 16 = 0xF)) (cf s)) t) := by
      simp only [incLoc, bind, Except.bind, h, incByte_val, hw, setAluFlags_eq, incByte_z]
      rfl
    exact exec_of_ok (f := .inc v) rfl done
  · have done : decLoc v s = .ok (withF (packFlags (decide (x = 1)) true (decide (x.toNat % 16 = 0)) (cf s)) t) := by
      simp only [decLoc, bind, Except.bind, h, decByte_val, hw, setAluFlags_eq, decByte_z]
      rfl
    exact exec_of_ok (f := .dec v) rfl done

/-- The flags and the cycle count are no register of the seven. -/
theorem getReg_withF (r : Reg8) (f : Byte) (n : Nat) (s : State) : getReg r { withF f s with cycles := n } = getReg r s := by
  cases r <;> rfl

/-- What `INC r` leaves in the registers and in C. -/
theorem exec_inc_reads {r : Reg8} {s t : State} (h : exec (Form.inc (.reg r)).toInstr s = .next t) :
    (∀ r', getReg r' t = if r' = r then BitVec.ofNat 8 ((getReg r s).toNat + 1) else getReg r' s) ∧ cf t = cf s := by
  rw [(incrementDecrement s (.reg r) _ rfl).1 _ rfl] at h
  obtain rfl := Host.Outcome.next.inj h
  exact ⟨fun r' => by rw [getReg_withF, getReg_setReg], (packFlags_bits ..).2.2.2⟩

/-- What `DEC r` leaves in the registers and in the flags. -/
theorem exec_dec_reads {r : Reg8} {s t : State} (h : exec (Form.dec (.reg r)).toInstr s = .next t) :
    (∀ r', getReg r' t = if r' = r then BitVec.ofNat 8 ((getReg r s).toNat + 255) else getReg r' s) ∧ cf t = cf s ∧ nf t = true ∧
      zf t = decide (getReg r s = 1) ∧ hf t = decide ((getReg r s).toNat % 16 = 0) := by
  rw [(incrementDecrement s (.reg r) _ rfl).2 _ rfl] at h
  obtain rfl := Host.Outcome.next.inj h
  obtain ⟨z, n, hc, c⟩ := packFlags_bits (decide (getReg r s = 1)) true (decide ((getReg r s).toNat % 16 = 0)) (cf s)
  exact ⟨fun r' => by rw [getReg_withF, getReg_setReg], c, n, z, hc⟩

/-- Settles O31: by what each step reads (`exec_inc_reads`, `exec_dec_reads`) and byte arithmetic. -/
theorem incThenDecRestores : Obligations.IncThenDecRestores := by
  intro s t u r hi hd
  obtain ⟨regs, carry⟩ := exec_inc_reads hi
  obtain ⟨regs', carry', n, z, hc⟩ := exec_dec_reads hd
  have there : getReg r t = BitVec.ofNat 8 ((getReg r s).toNat + 1) := by rw [regs, if_pos rfl]
  have lt := (getReg r s).isLt
  refine ⟨fun r' => ?_, carry'.trans carry, n, ?_, ?_⟩
  · rw [regs']
    by_cases hr : r' = r
    · subst hr
      rw [if_pos rfl, there]
      apply BitVec.eq_of_toNat_eq
      simp only [BitVec.toNat_ofNat]
      omega
    · rw [if_neg hr, regs, if_neg hr]
  · rw [z, there]
    refine decide_eq_decide.mpr ⟨fun h => ?_, fun h => ?_⟩ <;> bv_omega
  · rw [hc, there]
    refine decide_eq_decide.mpr ?_
    simp only [BitVec.toNat_ofNat]
    omega

/-! ### DAA -/

/-- The two corrections, as the statement tells them. -/
theorem daaHigh_iff (a : Byte) (n c : Bool) : daaHigh a n c = true ↔ c = true ∨ (n = false ∧ a.toNat > 0x99) := by
  simp [daaHigh]

theorem daaLow_iff (a : Byte) (n h : Bool) : daaLow a n h = true ↔ h = true ∨ (n = false ∧ a.toNat % 16 > 9) := by
  simp [daaLow]

/-- Settles O32: the corrections by `daaHigh_iff` and `daaLow_iff`, the result in numbers. -/
theorem decimalAdjust : Obligations.DecimalAdjust := by
  intro s a high low adj res
  have hHigh : daaHigh s.cpu.a (nf s) (cf s) = decide high := by
    rw [Bool.eq_iff_iff, daaHigh_iff, decide_eq_true_iff]
  have hLow : daaLow s.cpu.a (nf s) (hf s) = decide low := by
    rw [Bool.eq_iff_iff, daaLow_iff, decide_eq_true_iff]
  have hAdj : daaAdjust s.cpu.a (nf s) (hf s) (cf s) = BitVec.ofNat 8 adj := by
    rw [daaAdjust, hHigh, hLow]
    by_cases h1 : high <;> by_cases h2 : low <;> simp [adj, h1, h2]
  have small : adj < 256 := by
    simp only [adj]
    split_ifs <;> omega
  have hRes : (daaCompute s.cpu.a (nf s) (hf s) (cf s)).val = res := by
    simp only [daaCompute, hAdj, res]
    split <;> apply BitVec.eq_of_toNat_eq <;> simp only [BitVec.toNat_sub, BitVec.toNat_add, BitVec.toNat_ofNat, a] <;> omega
  have done : daaOp s = .ok (withAF res (packFlags (decide (res = 0)) (nf s) false (decide high)) s) := by
    simp only [daaOp, setAluFlags_eq, hRes]
    rw [← hHigh, ← hRes]
    rfl
  exact exec_of_ok (f := .daa) rfl done

/-- `DAA` after an addition, in numbers. -/
theorem exec_daa_added {t u : State} (h : exec Form.daa.toInstr t = .next u) (hn : nf t = false) :
    u.cpu.a.toNat = (t.cpu.a.toNat + ((if cf t = true ∨ t.cpu.a.toNat > 0x99 then 0x60 else 0) +
      (if hf t = true ∨ t.cpu.a.toNat % 16 > 9 then 0x06 else 0))) % 256 ∧ (cf u = true ↔ cf t = true ∨ t.cpu.a.toNat > 0x99) := by
  rw [decimalAdjust t] at h
  obtain rfl := Host.Outcome.next.inj h
  simp only [hn, true_and, Bool.false_eq_true, if_false]
  refine ⟨BitVec.toNat_ofNat .., ?_⟩
  exact (Bool.eq_iff_iff.mp (packFlags_bits ..).2.2.2).trans decide_eq_true_iff

/-- `DAA` after a subtraction, in numbers. -/
theorem exec_daa_subtracted {t u : State} (h : exec Form.daa.toInstr t = .next u) (hn : nf t = true) :
    u.cpu.a.toNat = (t.cpu.a.toNat + 256 - ((if cf t = true then 0x60 else 0) + (if hf t = true then 0x06 else 0))) % 256 ∧
      (cf u = true ↔ cf t = true) := by
  rw [decimalAdjust t] at h
  obtain rfl := Host.Outcome.next.inj h
  simp only [hn, Bool.true_eq_false, false_and, or_false, if_true]
  refine ⟨BitVec.toNat_ofNat .., ?_⟩
  exact (Bool.eq_iff_iff.mp (packFlags_bits ..).2.2.2).trans decide_eq_true_iff

/-- What `ADD A,r` leaves in A and in the flags, in numbers. -/
theorem exec_add_reads {v : Loc8} {b : Byte} {s t : State} (hv : readLoc v s = .ok b) (h : exec (Form.alu .add v).toInstr s = .next t) :
    t.cpu.a.toNat = (s.cpu.a.toNat + b.toNat) % 256 ∧ nf t = false ∧ (hf t = true ↔ s.cpu.a.toNat % 16 + b.toNat % 16 > 0xF) ∧
      (cf t = true ↔ s.cpu.a.toNat + b.toNat > 0xFF) := by
  have added := (addWithCarry (.loc v) b s hv).1
  rw [Source.form, h] at added
  obtain rfl := Host.Outcome.next.inj added
  obtain ⟨-, hn, hh, hc⟩ := packFlags_bits (isZero (s.cpu.a.toNat + b.toNat)) false (decide (s.cpu.a.toNat % 16 + b.toNat % 16 > 0xF))
    (decide (s.cpu.a.toNat + b.toNat > 0xFF))
  exact ⟨BitVec.toNat_ofNat .., hn, (Bool.eq_iff_iff.mp hh).trans decide_eq_true_iff, (Bool.eq_iff_iff.mp hc).trans decide_eq_true_iff⟩

/-- What `SUB r` leaves in A and in the flags, in numbers. -/
theorem exec_sub_reads {v : Loc8} {b : Byte} {s t : State} (hv : readLoc v s = .ok b) (h : exec (Form.alu .sub v).toInstr s = .next t) :
    t.cpu.a.toNat = (s.cpu.a.toNat + 256 - b.toNat) % 256 ∧ nf t = true ∧ (hf t = true ↔ s.cpu.a.toNat % 16 < b.toNat % 16) ∧
      (cf t = true ↔ s.cpu.a.toNat < b.toNat) := by
  have subtracted := (subtractAndCompare (.loc v) b s hv).1.1
  rw [Source.form, h] at subtracted
  obtain rfl := Host.Outcome.next.inj subtracted
  obtain ⟨-, hn, hh, hc⟩ := packFlags_bits (decide (s.cpu.a = b)) true (decide (s.cpu.a.toNat % 16 < b.toNat % 16))
    (decide (s.cpu.a.toNat < b.toNat))
  exact ⟨BitVec.toNat_ofNat .., hn, (Bool.eq_iff_iff.mp hh).trans decide_eq_true_iff, (Bool.eq_iff_iff.mp hc).trans decide_eq_true_iff⟩

theorem decimal_digits {n j d e : Nat} (h : n = 100 * j + 10 * d + e) (hd : d < 10) (he : e < 10) : n % 100 / 10 = d ∧ n % 10 = e := by
  omega

/-- The corrections of a packed decimal sum: 6 where the low digit carries, 0x60 where the high one does. -/
theorem packed_add {p q r w : Nat} (hp : p < 10) (hq : q < 10) (hr : r < 10) (hw : w < 10) :
    ((p * 16 + q + (r * 16 + w)) % 256 + ((if 100 ≤ p * 10 + q + (r * 10 + w) then 0x60 else 0) + (if 10 ≤ q + w then 0x06 else 0))) % 256 =
      (p * 10 + q + (r * 10 + w)) % 100 / 10 * 16 + (p * 10 + q + (r * 10 + w)) % 10 := by
  split_ifs
  · obtain ⟨tens, ones⟩ := decimal_digits (n := p * 10 + q + (r * 10 + w)) (j := 1) (d := p + r + 1 - 10) (e := q + w - 10) (by omega) (by omega)
      (by omega)
    omega
  · obtain ⟨tens, ones⟩ := decimal_digits (n := p * 10 + q + (r * 10 + w)) (j := 1) (d := p + r - 10) (e := q + w) (by omega) (by omega)
      (by omega)
    omega
  · obtain ⟨tens, ones⟩ := decimal_digits (n := p * 10 + q + (r * 10 + w)) (j := 0) (d := p + r + 1) (e := q + w - 10) (by omega) (by omega)
      (by omega)
    omega
  · obtain ⟨tens, ones⟩ := decimal_digits (n := p * 10 + q + (r * 10 + w)) (j := 0) (d := p + r) (e := q + w) (by omega) (by omega)
      (by omega)
    omega

/-- The corrections of a packed decimal difference: 6 where the low digit borrows, 0x60 where the high one does. -/
theorem packed_sub {p q r w : Nat} (hp : p < 10) (hq : q < 10) (hr : r < 10) (hw : w < 10) :
    ((p * 16 + q + 256 - (r * 16 + w)) % 256 + 256 - ((if p * 16 + q < r * 16 + w then 0x60 else 0) + (if q < w then 0x06 else 0))) % 256 =
      (p * 10 + q + 100 - (r * 10 + w)) % 100 / 10 * 16 + (p * 10 + q + 100 - (r * 10 + w)) % 10 := by
  split_ifs
  · obtain ⟨tens, ones⟩ := decimal_digits (n := p * 10 + q + 100 - (r * 10 + w)) (j := 0) (d := p + 9 - r) (e := q + 10 - w) (by omega) (by omega)
      (by omega)
    omega
  · obtain ⟨tens, ones⟩ := decimal_digits (n := p * 10 + q + 100 - (r * 10 + w)) (j := 0) (d := p + 10 - r) (e := q - w) (by omega) (by omega)
      (by omega)
    omega
  · obtain ⟨tens, ones⟩ := decimal_digits (n := p * 10 + q + 100 - (r * 10 + w)) (j := 1) (d := p - 1 - r) (e := q + 10 - w) (by omega) (by omega)
      (by omega)
    omega
  · obtain ⟨tens, ones⟩ := decimal_digits (n := p * 10 + q + 100 - (r * 10 + w)) (j := 1) (d := p - r) (e := q - w) (by omega) (by omega)
      (by omega)
    omega

/-- Settles O33: the sum or difference and its flags in numbers (`exec_add_reads`, `exec_sub_reads`) say when each correction applies, and the
corrections make the digits decimal (`packed_add`, `packed_sub`). -/
theorem decimalAdjustIsDecimal : Obligations.DecimalAdjustIsDecimal := by
  intro s t u x y v hx hy ha hv
  have hb : (BitVec.ofNat 8 (y / 10 * 16 + y % 10)).toNat = y / 10 * 16 + y % 10 := by
    rw [BitVec.toNat_ofNat]
    omega
  have digits (n : Nat) : n / 10 * 10 + n % 10 = n := Nat.div_add_mod' n 10
  have ht : x / 10 < 10 ∧ y / 10 < 10 := by omega
  have ho : x % 10 < 10 ∧ y % 10 < 10 := by omega
  refine ⟨fun hop hdaa => ?_, fun hop hdaa => ?_⟩
  · obtain ⟨hsum, hn, hh, hc⟩ := exec_add_reads hv hop
    obtain ⟨hres, hcarry⟩ := exec_daa_added hdaa hn
    rw [hb, ha] at hsum hh hc
    have high : cf t = true ∨ t.cpu.a.toNat > 0x99 ↔ 100 ≤ x + y := by
      rw [hc, hsum]
      omega
    have low : hf t = true ∨ t.cpu.a.toNat % 16 > 9 ↔ 10 ≤ x % 10 + y % 10 := by
      rw [hh, hsum]
      omega
    have decimal := packed_add ht.1 ho.1 ht.2 ho.2
    rw [digits, digits] at decimal
    simp only [high, low] at hres
    rw [hsum] at hres
    exact ⟨hres.trans decimal, hcarry.trans high⟩
  · obtain ⟨hdiff, hn, hh, hc⟩ := exec_sub_reads hv hop
    obtain ⟨hres, hcarry⟩ := exec_daa_subtracted hdaa hn
    rw [hb, ha] at hdiff hh hc
    have low : hf t = true ↔ x % 10 < y % 10 := by
      rw [hh]
      omega
    have decimal := packed_sub ht.1 ho.1 ht.2 ho.2
    rw [digits, digits] at decimal
    simp only [hc, low, hdiff] at hres
    refine ⟨hres.trans decimal, hcarry.trans (hc.trans ?_)⟩
    omega

end Sys2Proof.Machine

/-! ## 16-bit arithmetic, rotates, shifts and bits (43_alu16.md, 44_rotate_shift_bit.md), the extended table's row (46_system.md R285) -/

namespace Sys2Proof.Machine

/-! ### 16-bit arithmetic -/

theorem word_succ (w : Word) : w + 1 = BitVec.ofNat 16 (w.toNat + 1) := by
  apply BitVec.eq_of_toNat_eq
  rw [BitVec.toNat_add, BitVec.toNat_ofNat]
  rfl

theorem word_pred (w : Word) : w - 1 = BitVec.ofNat 16 (w.toNat + 0xFFFF) := by
  bv_omega

/-- `ADD SP,e` and `LD HL,SP+e` for the sum `addSp` gives. -/
theorem exec_addSp {s : State} {e : Byte} {r : Sum16} (h : addSp s.params.addSpFlags s.cpu.sp e = r) :
    exec (Form.addSpE e).toInstr s =
      .next { withF (packFlags false false r.h r.c) { s with cpu := { s.cpu with sp := r.val } } with cycles := cost (.addSpE e) s } ∧
    exec (Form.ldHlSpE e).toInstr s = .next { withF (packFlags false false r.h r.c) (setHL r.val s) with cycles := cost (.ldHlSpE e) s } := by
  have toSp : addSpE e s = .ok (withF (packFlags false false r.h r.c) (setSp r.val s)) := by simp only [addSpE, h, setFlags_eq]
  have toHL : ldHlSpE e s = .ok (withF (packFlags false false r.h r.c) (setHL r.val s)) := by simp only [ldHlSpE, h, setFlags_eq]
  exact ⟨exec_of_ok (f := .addSpE e) rfl toSp, exec_of_ok (f := .ldHlSpE e) rfl toHL⟩

/-- Settles O34: `addWord` and `addSp` are the statement's sums. -/
theorem arithmetic16 : Obligations.Arithmetic16 := by
  refine ⟨fun s p => ⟨?_, ?_, ?_⟩, fun s e => ?_⟩
  · exact exec_of_ok (f := .addHlPair p) rfl (congrArg _ (setFlags_eq ..))
  · rw [← word_succ]
    exact exec_of_ok (f := .incPair p) rfl rfl
  · rw [← word_pred]
    exact exec_of_ok (f := .decPair p) rfl rfl
  · simp only [← sext16_toNat]
    exact ⟨fun h => exec_addSp (r := addWord s.cpu.sp (sext16 e)) (congrArg (addSp · s.cpu.sp e) h),
      fun h => exec_addSp (r := addSp .bits3and7 s.cpu.sp e) (congrArg (addSp · s.cpu.sp e) h)⟩

/-! ### Rotates, shifts, bits -/

/-- An accumulator rotate, by the extended rotate that moves the bits as it does. -/
theorem exec_accRot (o : AccRot) (s : State) : exec (Form.accRot o).toInstr s =
    .next { withAF (BitVec.ofNat 8 (rotResult (accRotOp o) s.cpu.a.toNat (carryNat s))) (packFlags false false false (rotCarry (accRotOp o) s.cpu.a.toNat)) s
      with cycles := cost (.accRot o) s } := by
  obtain ⟨n, h, -⟩ := rotCompute_flags (accRotOp o) s.cpu.a (cf s)
  have done : accRot o s = .ok (withAF (BitVec.ofNat 8 (rotResult (accRotOp o) s.cpu.a.toNat (carryNat s)))
      (packFlags false false false (rotCarry (accRotOp o) s.cpu.a.toNat)) s) := by
    simp only [accRot, accRotCompute, setAluFlags_eq, n, h, rotCompute_val, rotCompute_c]
    rfl
  exact exec_of_ok (f := .accRot o) rfl done

/-- Settles O35: `rotCompute`'s fields are the statement's numbers. -/
theorem rotates : Obligations.Rotates := by
  refine ⟨fun s => ⟨⟨exec_accRot .rlca s, exec_accRot .rla s⟩, exec_accRot .rrca s, exec_accRot .rra s⟩, fun s t o v x hr hw => ?_⟩
  obtain ⟨n, h, z⟩ := rotCompute_flags o x (cf s)
  have zero : (rotCompute o x (cf s)).z = isZero (rotResult o x.toNat (carryNat s)) := by
    rw [z, rotCompute_val, isZero_eq]
    rfl
  have done : rot o v s = .ok (withF (packFlags (isZero (rotResult o x.toNat (carryNat s))) false false (rotCarry o x.toNat)) t) := by
    rw [carryNat, ← rotCompute_val] at hw
    simp only [rot, bind, Except.bind, hr, hw, setAluFlags_eq, n, h, zero, rotCompute_c]
  exact exec_of_ok (f := .rot o v) rfl done

/-- Settles O36: by the bit's number (`bit_number`, `clearBit_number`, `setBit_number`). -/
theorem bitOperations : Obligations.BitOperations := by
  intro s b v x h
  refine ⟨?_, fun t hw => ?_, fun t hw => ?_⟩
  · have done : bitTest b v s = .ok (withF (packFlags (decide (x.toNat / 2 ^ threeVal b % 2 = 0)) false true (cf s)) s) := by
      simp only [bitTest, bind, Except.bind, h, setFlags_eq, bit_number]
    exact exec_of_ok (f := .bit b v) rfl done
  · have done : resBit b v s = .ok t := by
      simp only [resBit, bind, Except.bind, h, clearBit_number]
      exact hw
    exact exec_of_ok (f := .res b v) rfl done
  · have done : setBit b v s = .ok t := by
      simp only [setBit, bind, Except.bind, h, setBit_number]
      exact hw
    exact exec_of_ok (f := .set b v) rfl done

/-! ### The extended table's row -/

/-- An extended instruction completes where its operand can be read and written. -/
theorem exec_decodeExtended_completes {op2 : Byte} {x : Byte} {s : State} (hr : readLoc (locOf (fieldZ op2)) s = .ok x)
    (hw : ∀ y, ∃ t, writeLoc (locOf (fieldZ op2)) y s = .ok t) : ∃ t, exec (decodeExtended op2).toInstr s = .next t := by
  unfold decodeExtended
  split
  · obtain ⟨t, e⟩ := hw (BitVec.ofNat 8 (rotResult (rotOf (fieldY op2)) x.toNat (carryNat s)))
    exact ⟨_, rotates.2 s t _ _ x hr e⟩
  · exact ⟨_, (bitOperations s _ _ x hr).1⟩
  · obtain ⟨t, e⟩ := hw (BitVec.ofNat 8 (x.toNat - x.toNat / 2 ^ threeVal (threeOf (fieldY op2)) % 2 * 2 ^ threeVal (threeOf (fieldY op2))))
    exact ⟨_, (bitOperations s _ _ x hr).2.1 t e⟩
  · obtain ⟨t, e⟩ := hw (BitVec.ofNat 8 (x.toNat + (1 - x.toNat / 2 ^ threeVal (threeOf (fieldY op2)) % 2) * 2 ^ threeVal (threeOf (fieldY op2))))
    exact ⟨_, (bitOperations s _ _ x hr).2.2 t e⟩

theorem locOf_register {z : Nat} (h : z ≠ 6) : ∃ r, locOf z = .reg r := by
  unfold locOf
  split
  case h_7 => exact absurd rfl h
  all_goals exact ⟨_, rfl⟩

/-- Settles O37: the row's operation is the extended instruction's (`extendedOp_eq`), which completes where its operand does. -/
theorem prefixRow : Obligations.PrefixRow := by
  refine ⟨fun pfx b1 b2 => ⟨decodeInstr_prefix pfx b1 b2, fun h => decodeInstr_base h.symm b1 b2⟩, fun op2 s => ?_⟩
  have row : exec (Form.prefixCb op2).toInstr s = exec (decodeExtended op2).toInstr s := by
    rw [exec_toInstr, exec_toInstr, ← extendedOp_eq]
    rfl
  have register (h : op2.toNat % 8 ≠ 6) : ∃ t, exec (decodeExtended op2).toInstr s = .next t := by
    obtain ⟨r, e⟩ := locOf_register h
    exact exec_decodeExtended_completes (x := getReg r s) (by rw [fieldZ, e]; rfl) (fun y => ⟨setReg r y s, by rw [fieldZ, e]; rfl⟩)
  rw [row]
  refine ⟨rfl, register, fun x hx hne => ?_⟩
  by_cases h : op2.toNat % 8 = 6
  · have e : locOf (fieldZ op2) = .atHL := by
      rw [fieldZ, h]
      rfl
    exact exec_decodeExtended_completes (x := x) (by rw [e]; exact hx) (fun y => by rw [e]; exact memWrite_completes _ y s hne)
  · exact register h

end Sys2Proof.Machine

/-! ## Frames over every instruction (10_state.md R20 to R29, 20_memory.md R62) -/

namespace Sys2Proof.Machine

/-! ### Memory and devices -/

/-- A read no store may change reads as before. -/
theorem memRead_of_storesTo {targets : List Word} {b : Word} {s t : State} (h : StoresTo targets s t)
    (hb : ∀ a, a ∈ targets → mayChange a b = false) : memRead b t = memRead b s := by
  induction targets generalizing s with
  | nil =>
    have e : CpuOnly s t := h
    unfold CpuOnly at e
    rw [e]
    exact memRead_congr b rfl rfl rfl rfl rfl rfl rfl rfl
  | cons a rest ih =>
    obtain ⟨v, u, hm, h⟩ := h
    rw [ih h fun a' ha' => hb a' (List.mem_cons_of_mem a ha')]
    exact busWriteFootprint a b v s u hm (hb a List.mem_cons_self)

/-- Settles O43: an instruction is its stores (`exec_stores`), each with the footprint of O19. -/
theorem memoryFrame : Obligations.MemoryFrame :=
  fun f s t h _ hb => memRead_of_storesTo (exec_stores f s t h) hb

/-- The state outside the CPU that no bus address holds. -/
structure HiddenKept (s t : State) : Prop where
  timaAcc : t.timer.timaAcc = s.timer.timaAcc
  mode : t.ppu.mode = s.ppu.mode
  acc : t.ppu.acc = s.ppu.acc
  fb : t.ppu.fb = s.ppu.fb
  image : t.cart.image = s.cart.image
  kind : kindOf t.cart.mbc = kindOf s.cart.mbc
  buttons : t.joypad.buttons = s.joypad.buttons
  params : t.params = s.params
  hostActs : t.hostActs = s.hostActs
  handedFrame : t.handedFrame = s.handedFrame

theorem HiddenKept.memWrite {s t u : State} {a : Word} {v : Byte} (k : HiddenKept s t) (h : memWrite a v t = .ok u) : HiddenKept s u := by
  have w := memWrite_kept h
  exact ⟨w.timaAcc.trans k.timaAcc, w.mode.trans k.mode, w.acc.trans k.acc, w.fb.trans k.fb, w.image.trans k.image,
    (memWrite_kind h).trans k.kind, w.buttons.trans k.buttons, w.params.trans k.params, w.hostActs.trans k.hostActs,
    w.handedFrame.trans k.handedFrame⟩

theorem HiddenKept.cpuOnly {s t u : State} (k : HiddenKept s t) (h : CpuOnly t u) : HiddenKept s u := by
  unfold CpuOnly at h
  rw [h]
  exact ⟨k.timaAcc, k.mode, k.acc, k.fb, k.image, k.kind, k.buttons, k.params, k.hostActs, k.handedFrame⟩

/-- Settles O44: neither a store nor a CPU change touches the hidden state (`StoresTo.keeps`), and without stores only the CPU changes. -/
theorem deviceFrame : Obligations.DeviceFrame := by
  intro f s t h
  have stores := exec_stores f s t h
  have k : HiddenKept s t := stores.keeps (P := HiddenKept s) (fun _ _ _ _ k => k.memWrite) (fun _ _ k => k.cpuOnly)
    ⟨rfl, rfl, rfl, rfl, rfl, rfl, rfl, rfl, rfl, rfl⟩
  refine ⟨⟨k.timaAcc, k.mode, k.acc, k.fb, k.image, k.kind, k.buttons, k.params, k.hostActs, k.handedFrame⟩, fun none => ?_⟩
  rw [none] at stores
  exact stores

/-! ### CPU registers: what an operation may write -/

/-- The CPU registers an instruction may write, `IME` and its latch apart. -/
structure CpuWrites where
  regs : List Reg8
  flags : Bool
  sp : Bool
  pc : Bool
  halted : Bool
  stopped : Bool

/-- The rules' list for an instruction. -/
def cpuWrites (f : Form) : CpuWrites where
  regs := destRegs f
  flags := writesFlags f
  sp := writesSp f
  pc := writesPc f
  halted := match f with
    | .halt => true
    | _ => false
  stopped := match f with
    | .stop _ => true
    | _ => false

/-- Every CPU register but those of `w` is the same in both states. -/
structure CpuFrame (w : CpuWrites) (s t : State) : Prop where
  regs : ∀ r, r ∉ w.regs → getReg r t = getReg r s
  flags : w.flags = false → t.cpu.f = s.cpu.f
  sp : w.sp = false → t.cpu.sp = s.cpu.sp
  pc : w.pc = false → t.cpu.pc = s.cpu.pc
  halted : w.halted = false → t.cpu.halted = s.cpu.halted
  stopped : w.stopped = false → t.cpu.stopped = s.cpu.stopped

section

variable {w : CpuWrites} {s t u : State}

theorem CpuFrame.of_cpu (h : t.cpu = s.cpu) : CpuFrame w s t :=
  ⟨fun r _ => getReg_congr r h, fun _ => by rw [h], fun _ => by rw [h], fun _ => by rw [h], fun _ => by rw [h], fun _ => by rw [h]⟩

theorem CpuFrame.refl (s : State) : CpuFrame w s s := .of_cpu rfl

theorem CpuFrame.trans (h : CpuFrame w s t) (k : CpuFrame w t u) : CpuFrame w s u :=
  ⟨fun r hr => (k.regs r hr).trans (h.regs r hr), fun e => (k.flags e).trans (h.flags e), fun e => (k.sp e).trans (h.sp e),
    fun e => (k.pc e).trans (h.pc e), fun e => (k.halted e).trans (h.halted e), fun e => (k.stopped e).trans (h.stopped e)⟩

/-! #### The register operations -/

theorem cpuFrame_setReg {r : Reg8} {v : Byte} (h : r ∈ w.regs) : CpuFrame w s (setReg r v s) where
  regs r' hr := by rw [getReg_setReg, if_neg fun e : r' = r => hr (e ▸ h)]
  flags _ := setReg_cpu_f ..
  sp _ := setReg_cpu_sp ..
  pc _ := setReg_cpu_pc ..
  halted _ := setReg_cpu_halted ..
  stopped _ := setReg_cpu_stopped ..

theorem cpuFrame_setFlags {z n h c : Bool} (hf : w.flags = true) : CpuFrame w s (setFlags z n h c s) where
  regs r _ := getReg_setFlags ..
  flags e := absurd (hf.symm.trans e) (by decide)
  sp _ := rfl
  pc _ := rfl
  halted _ := rfl
  stopped _ := rfl

theorem cpuFrame_setSp {v : Word} (h : w.sp = true) : CpuFrame w s (setSp v s) where
  regs r _ := getReg_setSp ..
  flags _ := rfl
  sp e := absurd (h.symm.trans e) (by decide)
  pc _ := rfl
  halted _ := rfl
  stopped _ := rfl

theorem cpuFrame_setPc {v : Word} (h : w.pc = true) : CpuFrame w s (setPc v s) where
  regs r _ := getReg_setPc ..
  flags _ := rfl
  sp _ := rfl
  pc e := absurd (h.symm.trans e) (by decide)
  halted _ := rfl
  stopped _ := rfl

theorem cpuFrame_setTwo {q r : Reg8} (x y : Byte) (hq : q ∈ w.regs) (hr : r ∈ w.regs) : CpuFrame w s (setReg r y (setReg q x s)) :=
  (cpuFrame_setReg hq).trans (cpuFrame_setReg hr)

/-- A register pair is its two registers. -/
theorem cpuFrame_setPair {p : Pair} {v : Word} (hr : pairRegs p ⊆ w.regs) (hs : p = .sp → w.sp = true) : CpuFrame w s (setPair p v s) := by
  cases p with
  | sp => exact cpuFrame_setSp (hs rfl)
  | bc => exact cpuFrame_setTwo (q := .b) (r := .c) (hiByte v) (loByte v) (hr (by decide)) (hr (by decide))
  | de => exact cpuFrame_setTwo (q := .d) (r := .e) (hiByte v) (loByte v) (hr (by decide)) (hr (by decide))
  | hl => exact cpuFrame_setTwo (q := .h) (r := .l) (hiByte v) (loByte v) (hr (by decide)) (hr (by decide))

theorem cpuFrame_setHL {v : Word} (hr : pairRegs .hl ⊆ w.regs) : CpuFrame w s (setHL v s) := cpuFrame_setPair (p := .hl) hr nofun

theorem cpuFrame_setStackPair {p : StackPair} {v : Word} (hr : stackPairRegs p ⊆ w.regs) (hf : p = .af → w.flags = true) :
    CpuFrame w s (setStackPair p v s) := by
  cases p with
  | bc => exact cpuFrame_setPair (p := .bc) hr nofun
  | de => exact cpuFrame_setPair (p := .de) hr nofun
  | hl => exact cpuFrame_setHL hr
  | af =>
    refine (cpuFrame_setReg (r := .a) (v := hiByte v) (hr (by decide))).trans ⟨fun r _ => getReg_setF .., fun e => ?_, fun _ => rfl, fun _ => rfl,
      fun _ => rfl, fun _ => rfl⟩
    exact absurd ((hf rfl).symm.trans e) (by decide)

theorem cpuFrame_pointerStep {p : Pointer} (hr : pointerRegs p ⊆ w.regs) : CpuFrame w s (pointerStep p s) := by
  cases p with
  | bc | de => exact .refl s
  | hlInc | hlDec => exact cpuFrame_setHL hr

theorem cpuFrame_aluOn {op : AluOp} {v : Byte} (hr : aluWrites op = true → .a ∈ w.regs) (hf : w.flags = true) : CpuFrame w s (aluOn op v s) := by
  unfold aluOn
  split
  · next h => exact (cpuFrame_setReg (hr h)).trans (cpuFrame_setFlags hf)
  · exact cpuFrame_setFlags hf

/-! #### The operations that access memory -/

theorem cpuFrame_memWrite {a : Word} {v : Byte} (h : memWrite a v s = .ok t) : CpuFrame w s t := .of_cpu (memWrite_kept h).cpu

theorem cpuFrame_writeLoc {v : Loc8} {x : Byte} (h : writeLoc v x s = .ok t) (hr : locRegs v ⊆ w.regs) : CpuFrame w s t := by
  cases v with
  | reg r =>
    rw [← Except.ok.inj h]
    exact cpuFrame_setReg (hr List.mem_cons_self)
  | atHL => exact cpuFrame_memWrite h

theorem cpuFrame_push16 {x : Word} (h : push16 x s = .ok t) (hs : w.sp = true) : CpuFrame w s t := by
  obtain ⟨s1, s2, -, -, k, rfl⟩ := push16_ok h
  exact (CpuFrame.of_cpu k.cpu).trans (cpuFrame_setSp hs)

theorem cpuFrame_pop16 {x : Word} (h : pop16 s = .ok (x, t)) (hs : w.sp = true) : CpuFrame w s t := by
  obtain ⟨-, -, rfl⟩ := pop16_ok h
  exact cpuFrame_setSp hs

/-- One read, then a change of the state that the byte decides. -/
theorem cpuFrame_read {x : Except Fault Byte} {g : Byte → State} (h : (x >>= fun v => .ok (g v)) = .ok t) (k : ∀ v, CpuFrame w s (g v)) :
    CpuFrame w s t := by
  obtain ⟨v, -, h⟩ := bind_ok h
  rw [← Except.ok.inj h]
  exact k v

/-- A read, a computation and one write back. -/
theorem cpuFrame_readWrite {v : Loc8} {f : Byte → Byte} (h : (readLoc v s >>= fun x => writeLoc v (f x) s) = .ok t) (hr : locRegs v ⊆ w.regs) :
    CpuFrame w s t := by
  obtain ⟨x, -, h⟩ := bind_ok h
  exact cpuFrame_writeLoc h hr

/-- A read, a computation, one write back and the flags. -/
theorem cpuFrame_readWriteFlags {v : Loc8} {f : Byte → Alu}
    (h : (readLoc v s >>= fun x => writeLoc v (f x).val s >>= fun u => .ok (setAluFlags (f x) u)) = .ok t) (hr : locRegs v ⊆ w.regs)
    (hf : w.flags = true) : CpuFrame w s t := by
  obtain ⟨x, -, h⟩ := bind_ok h
  obtain ⟨u, hu, h⟩ := bind_ok h
  rw [← Except.ok.inj h]
  exact (cpuFrame_writeLoc hu hr).trans (cpuFrame_setFlags hf)

theorem cpuFrame_loadAAt {a : Word} (h : loadAAt a s = .ok t) (hr : .a ∈ w.regs) : CpuFrame w s t := cpuFrame_read h fun _ => cpuFrame_setReg hr

theorem cpuFrame_loadAAtPtr {p : Pointer} (h : loadAAtPtr p s = .ok t) (ha : .a ∈ w.regs) (hr : pointerRegs p ⊆ w.regs) : CpuFrame w s t := by
  obtain ⟨u, hu, h⟩ := bind_ok h
  rw [← Except.ok.inj h]
  exact (cpuFrame_loadAAt hu ha).trans (cpuFrame_pointerStep hr)

theorem cpuFrame_storeAAtPtr {p : Pointer} (h : storeAAtPtr p s = .ok t) (hr : pointerRegs p ⊆ w.regs) : CpuFrame w s t := by
  obtain ⟨u, hu, h⟩ := bind_ok h
  rw [← Except.ok.inj h]
  exact (cpuFrame_memWrite hu).trans (cpuFrame_pointerStep hr)

theorem cpuFrame_storeSp {nn : Word} (h : storeSp nn s = .ok t) : CpuFrame w s t := by
  obtain ⟨u, hu, h⟩ := bind_ok h
  exact (cpuFrame_memWrite hu).trans (cpuFrame_memWrite h)

theorem cpuFrame_popPair {p : StackPair} (h : popPair p s = .ok t) (hs : w.sp = true) (hr : stackPairRegs p ⊆ w.regs)
    (hf : p = .af → w.flags = true) : CpuFrame w s t := by
  obtain ⟨⟨x, u⟩, hx, h⟩ := bind_ok h
  rw [← Except.ok.inj h]
  exact (cpuFrame_pop16 hx hs).trans (cpuFrame_setStackPair hr hf)

/-! #### Control transfer -/

theorem cpuFrame_call {nn : Word} (h : call nn s = .ok t) (hs : w.sp = true) (hp : w.pc = true) : CpuFrame w s t := by
  obtain ⟨u, hu, h⟩ := bind_ok h
  rw [← Except.ok.inj h]
  exact (cpuFrame_push16 hu hs).trans (cpuFrame_setPc hp)

theorem cpuFrame_ret (h : ret s = .ok t) (hs : w.sp = true) (hp : w.pc = true) : CpuFrame w s t := by
  obtain ⟨⟨x, u⟩, hx, h⟩ := bind_ok h
  rw [← Except.ok.inj h]
  exact (cpuFrame_pop16 hx hs).trans (cpuFrame_setPc hp)

theorem cpuFrame_reti (h : reti s = .ok t) (hs : w.sp = true) (hp : w.pc = true) : CpuFrame w s t := by
  obtain ⟨⟨x, u⟩, hx, h⟩ := bind_ok h
  rw [← Except.ok.inj h]
  exact (cpuFrame_pop16 hx hs).trans ((cpuFrame_setPc (v := x) hp).trans (.of_cpu rfl))

/-- A conditional jump. -/
theorem cpuFrame_jump {b c : Bool} {x : Word} (h : (.ok (b, if b then setPc x s else s) : Except Fault (Bool × State)) = .ok (c, t))
    (hp : w.pc = true) : CpuFrame w s t := by
  rw [← (taken_ok h).2]
  split
  · exact cpuFrame_setPc hp
  · exact .refl s

/-- A conditional operation: taken, it is the operation; not taken, nothing. -/
theorem cpuFrame_conditional {taken b : Bool} {x : Except Fault State}
    (h : (if taken then x >>= fun u => .ok (true, u) else .ok (false, s)) = .ok (b, t)) (k : ∀ u, x = .ok u → CpuFrame w s u) : CpuFrame w s t := by
  split at h
  · obtain ⟨u, hu, h⟩ := bind_ok h
    rw [← (taken_ok h).2]
    exact k u hu
  · rw [← (taken_ok h).2]
    exact .refl s

/-! #### The end of an instruction -/

theorem cpuFrame_finish {n : Nat} {r : Except Fault State} (h : finish n r = .next t) (k : ∀ u, r = .ok u → CpuFrame w s u) : CpuFrame w s t := by
  obtain ⟨u, hu, rfl⟩ := finish_next h
  exact (k u hu).trans (.of_cpu rfl)

theorem cpuFrame_finishIf {n m : Nat} {r : Except Fault (Bool × State)} (h : finishIf n m r = .next t)
    (k : ∀ b u, r = .ok (b, u) → CpuFrame w s u) : CpuFrame w s t := by
  obtain ⟨b, u, hu, rfl⟩ := finishIf_next h
  exact (k b u hu).trans (.of_cpu rfl)

/-- An operation that cannot fail. -/
theorem cpuFrame_pure {n : Nat} (h : finish n (.ok u) = .next t) (k : CpuFrame w s u) : CpuFrame w s t := by
  rw [← Host.Outcome.next.inj h]
  exact k.trans (.of_cpu rfl)

end

/-! ### Every instruction -/

/-- Every form but the extended table's row. -/
theorem runForm_cpuFrame {f : Form} {s t : State} (hp : ∀ op2, f ≠ .prefixCb op2) (h : runForm f s = .next t) : CpuFrame (cpuWrites f) s t := by
  cases f with
  | prefixCb op2 => exact absurd rfl (hp op2)
  | undefined u =>
    simp only [runForm, undefinedOp] at h
    split at h
    · cases h
    · exact cpuFrame_pure h (.refl s)
  | nop => exact cpuFrame_pure h (.refl s)
  | halt => exact cpuFrame_pure h ⟨fun r _ => by cases r <;> rfl, fun _ => rfl, fun _ => rfl, fun _ => rfl, nofun, fun _ => rfl⟩
  | stop pad => exact cpuFrame_pure h ⟨fun r _ => by cases r <;> rfl, fun _ => rfl, fun _ => rfl, fun _ => rfl, fun _ => rfl, nofun⟩
  | ei =>
    refine cpuFrame_finish h fun u hu => ?_
    unfold eiOp at hu
    split at hu <;> rw [← Except.ok.inj hu]
    · exact ⟨fun r _ => by cases r <;> rfl, fun _ => rfl, fun _ => rfl, fun _ => rfl, fun _ => rfl, fun _ => rfl⟩
    · exact .of_cpu rfl
  | di =>
    refine cpuFrame_finish h fun u hu => ?_
    unfold diOp at hu
    split at hu <;> rw [← Except.ok.inj hu]
    · exact ⟨fun r _ => by cases r <;> rfl, fun _ => rfl, fun _ => rfl, fun _ => rfl, fun _ => rfl, fun _ => rfl⟩
    · exact .of_cpu rfl
  | jr | jpHl | jpNn => exact cpuFrame_pure h (cpuFrame_setPc rfl)
  | ldSpHl => exact cpuFrame_pure h (cpuFrame_setSp rfl)
  | jrCc cc e => exact cpuFrame_finishIf h fun b u hu => cpuFrame_jump hu rfl
  | jpCc cc nn => exact cpuFrame_finishIf h fun b u hu => cpuFrame_jump hu rfl
  | callCc cc nn => exact cpuFrame_finishIf h fun b u hu => cpuFrame_conditional hu fun v hv => cpuFrame_call hv rfl rfl
  | retCc cc => exact cpuFrame_finishIf h fun b u hu => cpuFrame_conditional hu fun v hv => cpuFrame_ret hv rfl rfl
  | callNn | rst => exact cpuFrame_finish h fun u hu => cpuFrame_call hu rfl rfl
  | ret => exact cpuFrame_finish h fun u hu => cpuFrame_ret hu rfl rfl
  | reti => exact cpuFrame_finish h fun u hu => cpuFrame_reti hu rfl rfl
  | push p => exact cpuFrame_finish h fun u hu => cpuFrame_push16 hu rfl
  | pop p => exact cpuFrame_finish h fun u hu => cpuFrame_popPair hu rfl (fun _ => id) fun e => decide_eq_true e
  | ldReg => exact cpuFrame_pure h (cpuFrame_setReg List.mem_cons_self)
  | ldPairNn | incPair | decPair => exact cpuFrame_pure h (cpuFrame_setPair (fun _ => id) fun e => decide_eq_true e)
  | scf | ccf => exact cpuFrame_pure h (cpuFrame_setFlags rfl)
  | cpl | daa | accRot => exact cpuFrame_pure h ((cpuFrame_setReg (r := .a) List.mem_cons_self).trans (cpuFrame_setFlags rfl))
  | addHlPair | ldHlSpE => exact cpuFrame_pure h ((cpuFrame_setHL fun _ => id).trans (cpuFrame_setFlags rfl))
  | addSpE => exact cpuFrame_pure h ((cpuFrame_setSp rfl).trans (cpuFrame_setFlags rfl))
  | aluN op n => exact cpuFrame_pure h (cpuFrame_aluOn (fun e => by simp [cpuWrites, destRegs, e]) rfl)
  | alu op v => exact cpuFrame_finish h fun u hu => cpuFrame_read hu fun x => cpuFrame_aluOn (fun e => by simp [cpuWrites, destRegs, e]) rfl
  | bit b v => exact cpuFrame_finish h fun u hu => cpuFrame_read hu fun x => cpuFrame_setFlags rfl
  | ldFromHL dst => exact cpuFrame_finish h fun u hu => cpuFrame_read hu fun x => cpuFrame_setReg List.mem_cons_self
  | ldAAtNn | ldhAAtN | ldhAAtC => exact cpuFrame_finish h fun u hu => cpuFrame_loadAAt hu List.mem_cons_self
  | ldAAtPtr p => exact cpuFrame_finish h fun u hu => cpuFrame_loadAAtPtr hu List.mem_cons_self fun _ => List.mem_cons_of_mem _
  | ldN => exact cpuFrame_finish h fun u hu => cpuFrame_writeLoc hu fun _ => id
  | ldToHL | ldhAtNA | ldhAtCA | ldAtNnA => exact cpuFrame_finish h fun u hu => cpuFrame_memWrite hu
  | ldAtPtrA p => exact cpuFrame_finish h fun u hu => cpuFrame_storeAAtPtr hu fun _ => id
  | ldAtNnSp nn => exact cpuFrame_finish h fun u hu => cpuFrame_storeSp hu
  | inc v => exact cpuFrame_finish h fun u hu => cpuFrame_readWriteFlags (f := fun x => incByte x (cf s)) hu (fun _ => id) rfl
  | dec v => exact cpuFrame_finish h fun u hu => cpuFrame_readWriteFlags (f := fun x => decByte x (cf s)) hu (fun _ => id) rfl
  | rot o v => exact cpuFrame_finish h fun u hu => cpuFrame_readWriteFlags (f := fun x => rotCompute o x (cf s)) hu (fun _ => id) rfl
  | res b v =>
    exact cpuFrame_finish h fun u hu => cpuFrame_readWrite (f := fun x => x &&& (0xFF ^^^ BitVec.ofNat 8 (2 ^ threeVal b))) hu fun _ => id
  | set b v => exact cpuFrame_finish h fun u hu => cpuFrame_readWrite (f := fun x => x ||| BitVec.ofNat 8 (2 ^ threeVal b)) hu fun _ => id

/-- The extended table's row may write what the extended instruction it selects may write. -/
theorem cpuWrites_extendedRow (op2 : Byte) : cpuWrites (.prefixCb op2) = cpuWrites (decodeExtended op2) := by
  have plain := decodeExtended_extended op2
  simp only [cpuWrites, destRegs, writesFlags, writesSp, writesPc]
  generalize decodeExtended op2 = f at plain
  cases f with
  | rot | bit | res | set => rfl
  | _ => cases plain

theorem exec_cpuFrame {f : Form} {s t : State} (h : exec f.toInstr s = .next t) : CpuFrame (cpuWrites f) s t := by
  rw [exec_toInstr] at h
  by_cases hp : ∃ op2, f = .prefixCb op2
  · obtain ⟨op2, rfl⟩ := hp
    rw [cpuWrites_extendedRow]
    exact runForm_cpuFrame (decodeExtended_plain op2).2 ((extendedOp_eq op2 s).symm.trans h)
  · exact runForm_cpuFrame (fun op2 e => hp ⟨op2, e⟩) h

/-- Settles O42: `CpuFrame` for every form, and `exec_flagsImeKept` for `IME` and its latch. -/
theorem registerFrame : Obligations.RegisterFrame := by
  intro f s t h
  have k := exec_cpuFrame h
  refine ⟨k.regs, k.flags, k.sp, k.pc, fun hf => k.halted ?_, fun hf => k.stopped ?_, fun hf => ?_⟩
  · cases f with
    | halt => exact absurd rfl hf
    | _ => rfl
  · cases f with
    | stop pad => exact absurd rfl (hf pad)
    | _ => rfl
  · have kept := exec_flagsImeKept hf h
    exact ⟨kept.ime, kept.latch⟩

end Sys2Proof.Machine

/-! ## Rendering (60_exceptions.md R340 to R346) -/

namespace Sys2Proof.Machine

/-! ### The background and the window -/

theorem windowActive_iff (p : PixelUnit) (line : Nat) : windowActive p line = true ↔ p.lcdc.getLsbD 5 = true ∧ p.wy.toNat ≤ line := by
  simp [windowActive, bit]

theorem mapBase_eq (p : PixelUnit) (line : Nat) : mapBase p line =
    if (windowActive p line = true ∧ p.lcdc.getLsbD 6 = true) ∨ (¬ windowActive p line = true ∧ p.lcdc.getLsbD 3 = true) then 0x9C00 else 0x9800 := by
  unfold mapBase bit
  cases windowActive p line <;> simp

theorem mapBase_cases (p : PixelUnit) (line : Nat) : mapBase p line = 0x9C00 ∨ mapBase p line = 0x9800 :=
  ite_eq_or_eq _ _ _

theorem mapY_lt {p : PixelUnit} {line : Nat} (h : line < 144) : mapY p line < 256 := by
  unfold mapY
  split <;> omega

theorem mapX_lt {p : PixelUnit} {line x : Nat} (h : x < 160) : mapX p line x < 256 := by
  unfold mapX
  split <;> omega

/-- The signed tile numbers count from 0x9000, so those from 0x80 up lie from 0x8800 up. -/
theorem tileAddr_eq (lcdc idx : Byte) : tileAddr lcdc idx =
    if lcdc.getLsbD 4 then 0x8000 + idx.toNat * 16 else if idx.toNat < 0x80 then 0x9000 + idx.toNat * 16 else 0x8000 + idx.toNat * 16 := by
  unfold tileAddr signed8 bit
  split
  · rfl
  · split <;> omega

theorem tileAddr_bounds (lcdc idx : Byte) : 0x8000 ≤ tileAddr lcdc idx ∧ tileAddr lcdc idx + 16 ≤ 0x9800 := by
  have h := idx.isLt
  rw [tileAddr_eq]
  split_ifs <;> omega

/-- A pixel of the background row. -/
theorem backgroundRow_getD {s : State} {line x : Nat} (h : x < 160) :
    (backgroundRow s line).getD x 0 = if s.ppu.lcdc.getLsbD 0 then backgroundPixel s line x else 0 := by
  unfold backgroundRow bit
  split
  · rw [List.getD_eq_getElem?_getD, List.getElem?_map, List.getElem?_range h]
    rfl
  · exact List.getD_replicate _ h

/-- Without sprites a rendered row is the background's. -/
theorem spritesOnRow_off {s : State} {line : Nat} {row : List Shade} (h : s.ppu.lcdc.getLsbD 1 = false) : spritesOnRow s line row = row := by
  rw [spritesOnRow, bit, h, if_neg Bool.false_ne_true]

/-- The bytes and the shade of a background pixel: three bus reads of video RAM. -/
theorem backgroundPixel_reads {s : State} {line x : Nat} (hl : line < 144) (hx : x < 160) : ∃ idx lo hi : Byte,
    memRead (BitVec.ofNat 16 (mapBase s.ppu line + mapY s.ppu line / 8 * 32 + mapX s.ppu line x / 8)) s = .ok idx ∧
    memRead (BitVec.ofNat 16 (tileAddr s.ppu.lcdc idx + mapY s.ppu line % 8 * 2)) s = .ok lo ∧
    memRead (BitVec.ofNat 16 (tileAddr s.ppu.lcdc idx + mapY s.ppu line % 8 * 2 + 1)) s = .ok hi ∧
    (backgroundPixel s line x).toNat = s.ppu.bgp.toNat /
      4 ^ ((hi.getLsbD (7 - mapX s.ppu line x % 8)).toNat * 2 + (lo.getLsbD (7 - mapX s.ppu line x % 8)).toNat) % 4 := by
  have hy := mapY_lt (p := s.ppu) hl
  have hxp := mapX_lt (p := s.ppu) (line := line) hx
  have base := mapBase_cases s.ppu line
  have tile := tileAddr_bounds s.ppu.lcdc (s.mem.read (mapBase s.ppu line + mapY s.ppu line / 8 * 32 + mapX s.ppu line x / 8))
  exact ⟨_, _, _, memRead_vram _ s (by omega), memRead_vram _ s (by omega), memRead_vram _ s (by omega), paletteShade_toNat ..⟩

/-! ### Sprites -/

section

variable {α : Type} {d : α} {x len : Nat} {g : List α → Nat → List α} {paint : Nat → Option α}

/-- A pass of painters over a row: at `x` the last that paints there decides. -/
theorem foldl_paint_last (hlen : ∀ row i, (g row i).length = row.length)
    (hg : ∀ row i, row.length = len → (g row i).getD x d = (paint i).getD (row.getD x d)) (n : Nat) {row : List α} (hr : row.length = len) :
    (∀ i c, i < n → paint i = some c → (∀ j, i < j → j < n → paint j = none) → ((List.range n).foldl g row).getD x d = c) ∧
    ((∀ i, i < n → paint i = none) → ((List.range n).foldl g row).getD x d = row.getD x d) := by
  induction n with
  | zero => exact ⟨fun i c hi => absurd hi (Nat.not_lt_zero i), fun _ => rfl⟩
  | succ n ih =>
    obtain ⟨last, none⟩ := ih
    have step : ((List.range (n + 1)).foldl g row).getD x d = (paint n).getD (((List.range n).foldl g row).getD x d) := by
      rw [List.range_succ, List.foldl_append, List.foldl_cons, List.foldl_nil]
      exact hg _ n ((foldl_length g hlen _ row).trans hr)
    rw [step]
    refine ⟨fun i c hi hc later => ?_, fun all => ?_⟩
    · by_cases e : i = n
      · rw [← e, hc, Option.getD_some]
      · rw [later n (by omega) (by omega), Option.getD_none]
        exact last i c (by omega) hc fun j h1 h2 => later j h1 (by omega)
    · rw [all n (by omega), Option.getD_none]
      exact none fun i hi => all i (by omega)

end

theorem paletteShade_eq (p : Byte) (c : Nat) : paletteShade p c = BitVec.ofNat 2 (p.toNat / 4 ^ c % 4) := by
  apply BitVec.eq_of_toNat_eq
  rw [paletteShade_toNat, BitVec.toNat_ofNat, Nat.mod_mod]

/-- The pixel one of a sprite's eight pixels paints at column `x`, if any. -/
def pixelShade (p : PixelUnit) (attr lo hi : Byte) (x0 : Int) (x px : Nat) : Option Shade :=
  if x0 + px = x ∧ colourIndex lo hi (if bit attr 5 then px else 7 - px) ≠ 0 then
    some (paletteShade (if bit attr 4 then p.obp1 else p.obp0) (colourIndex lo hi (if bit attr 5 then px else 7 - px)))
  else none

theorem spritePixel_getD {p : PixelUnit} {attr lo hi : Byte} {x0 : Int} {x : Nat} (hx : x < 160) (row : List Shade) (px : Nat) (hr : row.length = 160) :
    (spritePixel p attr lo hi x0 row px).getD x 0 = (pixelShade p attr lo hi x0 x px).getD (row.getD x 0) := by
  simp only [spritePixel, pixelShade]
  generalize colourIndex lo hi (if bit attr 5 = true then px else 7 - px) = c
  by_cases here : x0 + px = x
  · have col : (x0 + px).toNat = x := by omega
    by_cases hc : c = 0
    · simp [hc]
    · rw [if_pos (c := c ≠ 0 ∧ 0 ≤ x0 + px ∧ x0 + px < 160) ⟨hc, by omega, by omega⟩, if_pos (c := x0 + px = x ∧ c ≠ 0) ⟨here, hc⟩, col]
      simp [List.getD_eq_getElem?_getD, hr, hx]
  · rw [if_neg (c := x0 + px = x ∧ c ≠ 0) fun h => here h.1, Option.getD_none]
    split
    · have col : (x0 + px).toNat ≠ x := by omega
      simp [List.getD_eq_getElem?_getD, List.getElem?_set_ne col]
    · rfl

/-- A pixel paints its own column alone. -/
theorem pixelShade_other {p : PixelUnit} {attr lo hi : Byte} {x0 : Int} {x px : Nat} (h : x0 + px ≠ x) : pixelShade p attr lo hi x0 x px = none :=
  if_neg fun k => h k.1

/-- The line of a sprite's first row. -/
def spriteTop (s : State) (i : Nat) : Int := (s.mem.read (0xFE00 + 4 * i)).toNat - 16

/-- Its first column. -/
def spriteLeft (s : State) (i : Nat) : Int := (s.mem.read (0xFE00 + 4 * i + 1)).toNat - 8

/-- A sprite's attributes. -/
def spriteAttr (s : State) (i : Nat) : Byte := s.mem.read (0xFE00 + 4 * i + 3)

/-- The address of its tile data for a line. -/
def spriteData (s : State) (line i : Nat) : Nat :=
  0x8000 + (s.mem.read (0xFE00 + 4 * i + 2)).toNat * 16 + spriteRow s.ppu (spriteAttr s i) ((line : Int) - spriteTop s i).toNat * 2

/-- A sprite is on a line. -/
def SpriteShown (s : State) (line i : Nat) : Prop := spriteTop s i ≤ line ∧ (line : Int) < spriteTop s i + spriteHeight s.ppu

/-- The pixel a shown sprite's data gives column `x`. -/
def dataShade (s : State) (line i x px : Nat) : Option Shade :=
  pixelShade s.ppu (spriteAttr s i) (s.mem.read (spriteData s line i)) (s.mem.read (spriteData s line i + 1)) (spriteLeft s i) x px

theorem spriteOnRow_shown {s : State} {line i : Nat} {row : List Shade} (h : SpriteShown s line i) : spriteOnRow s line row i =
    (List.range 8).foldl (spritePixel s.ppu (spriteAttr s i) (s.mem.read (spriteData s line i)) (s.mem.read (spriteData s line i + 1))
      (spriteLeft s i)) row := if_pos h

theorem spriteOnRow_hidden {s : State} {line i : Nat} {row : List Shade} (h : ¬ SpriteShown s line i) : spriteOnRow s line row i = row := if_neg h

theorem spriteHeight_int (p : PixelUnit) : ((spriteHeight p : Nat) : Int) = if bit p.lcdc 2 then 16 else 8 := by
  unfold spriteHeight
  split <;> rfl

/-- The tile row of a shown sprite, as the statement computes it on integers. -/
theorem spriteRow_int {p : PixelUnit} {attr : Byte} {dy : Int} (h : 0 ≤ dy ∧ dy < spriteHeight p) : spriteRow p attr dy.toNat =
    if bit attr 6 then ((if bit p.lcdc 2 then 16 else 8) - 1 - dy : Int).toNat else dy.toNat := by
  rw [← spriteHeight_int]
  unfold spriteRow
  split <;> omega

theorem spriteShade_shown {s : State} {line i x px : Nat} (h : SpriteShown s line i) (hx : spriteLeft s i + px = x) (hp : px < 8) :
    spriteShade s line x i = dataShade s line i x px := by
  unfold SpriteShown at h
  have row := spriteRow_int (attr := spriteAttr s i) (p := s.ppu) (dy := line - spriteTop s i) (by omega)
  rw [spriteHeight_int] at h
  unfold spriteLeft at hx
  have column : ((x : Int) - ((s.mem.read (0xFE00 + 4 * i + 1)).toNat - 8)).toNat = px := by omega
  refine (if_pos ⟨h.1, h.2, by omega, by omega⟩).trans ?_
  unfold dataShade pixelShade spriteData spriteLeft
  rw [row]
  simp only [column, paletteShade_eq, hx, true_and, ne_eq, ite_not]
  rfl

theorem spriteShade_other {s : State} {line i x : Nat} (h : ¬ (SpriteShown s line i ∧ spriteLeft s i ≤ x ∧ (x : Int) < spriteLeft s i + 8)) :
    spriteShade s line x i = none := by
  unfold SpriteShown at h
  rw [spriteHeight_int] at h
  exact if_neg fun k => h ⟨⟨k.1, k.2.1⟩, k.2.2⟩

/-- What a sprite does to column `x` of a row is `spriteShade`. -/
theorem spriteOnRow_getD {s : State} {line x : Nat} (hx : x < 160) (row : List Shade) (i : Nat) (hr : row.length = 160) :
    (spriteOnRow s line row i).getD x 0 = (spriteShade s line x i).getD (row.getD x 0) := by
  by_cases shown : SpriteShown s line i
  · obtain ⟨last, none⟩ := foldl_paint_last (fun row px => spritePixel_length ..) (fun row px => spritePixel_getD (p := s.ppu)
      (attr := spriteAttr s i) (lo := s.mem.read (spriteData s line i)) (hi := s.mem.read (spriteData s line i + 1)) (x0 := spriteLeft s i) hx row px) 8 hr
    rw [spriteOnRow_shown shown]
    by_cases col : spriteLeft s i ≤ x ∧ (x : Int) < spriteLeft s i + 8
    · obtain ⟨px, hpx⟩ := Int.eq_ofNat_of_zero_le (show 0 ≤ (x : Int) - spriteLeft s i by omega)
      have here : spriteLeft s i + px = x := by omega
      rw [spriteShade_shown shown here (by omega), dataShade]
      cases hc : pixelShade s.ppu (spriteAttr s i) (s.mem.read (spriteData s line i)) (s.mem.read (spriteData s line i + 1)) (spriteLeft s i) x px with
      | some c => exact last px c (by omega) hc fun j h1 h2 => pixelShade_other (by omega)
      | none =>
        refine none fun j hj => ?_
        by_cases e : j = px
        · rw [e, hc]
        · exact pixelShade_other (by omega)
    · rw [spriteShade_other fun h => col h.2]
      exact none fun j hj => pixelShade_other (by omega)
  · rw [spriteOnRow_hidden shown, spriteShade_other fun h => shown h.1, Option.getD_none]

/-- Settles O55: the sprite pass is a pass of painters (`foldl_paint_last`), each painting as `spriteShade` says. -/
theorem spriteComposition : Obligations.SpriteComposition := by
  intro s line x hl hx hb on
  have pixel : ((renderScanline line s).ppu.fb.getD line []).getD x 0 =
      ((List.range 40).foldl (spriteOnRow s line) (backgroundRow s line)).getD x 0 := by
    rw [renderScanline_row s line hl (by omega), spritesOnRow, bit, on, if_pos rfl]
  have pass := foldl_paint_last (fun row i => spriteOnRow_length s line row i) (spriteOnRow_getD (s := s) (line := line) hx) 40
    (backgroundRow_length s line)
  simp only [pixel]
  exact pass

end Sys2Proof.Machine

namespace Sys2Proof

open Machine in
/-- Settles O54: the row is the background's (`spritesOnRow_off`), whose pixels are `backgroundPixel_reads`; the map, the position and the tile are the
statement's (`mapBase_eq`, `windowActive_iff`, `tileAddr_eq`). -/
theorem backgroundPixel : Obligations.BackgroundPixel := by
  intro s line x hl hx hb off
  have pixel : ((renderScanline line s).ppu.fb.getD line []).getD x 0 = if s.ppu.lcdc.getLsbD 0 then Machine.backgroundPixel s line x else 0 := by
    rw [renderScanline_row s line hl (by omega), spritesOnRow_off off, backgroundRow_getD hx]
  simp only [pixel, ← windowActive_iff, ← mapBase_eq, ← tileAddr_eq]
  refine ⟨fun h => by rw [h, if_neg Bool.false_ne_true], fun h => ?_⟩
  rw [h, if_pos rfl]
  exact backgroundPixel_reads hl hx

end Sys2Proof
